-- ==== Sys2Proof/Syntax.lean ====
section
/-! DEFINITION. The operations of MG-SDS, one constructor per row of spec/opcode_table.json (30_encoding R74). -/

namespace Sys2Proof

/-- The 13 operations. They carry no operand fields, but for `EV_RST`, whose encoding `1x` leaves the `TICK` bit
open (30_encoding R62: "`TICK` ignored"). -/
inductive Instr where
  /-- `EV_RST`, event vector `1x`: the reset input is asserted; `tick` is the ignored `TICK` bit (70 R125). -/
  | evRst (tick : Bool)
  /-- `EV_TICK`, event vector `01`: the tick input fires (41 R94). -/
  | evTick
  /-- `S_IDLE`, `SPOS` = 0: accept a pending tick (41 R95). -/
  | sIdle
  /-- `S_SLOT0`, `SPOS` = 1: dispatch the Controller Decoder (41 R97). -/
  | sSlot0
  /-- `S_SLOT1`, `SPOS` = 2: dispatch the Output Dispatcher through the step port (41 R98). -/
  | sSlot1
  /-- `S_SLOT2`, `SPOS` = 3: dispatch the Game Sequencer and end the round (41 R99). -/
  | sSlot2
  /-- `D_START`, `DSTATE` = 0 (40 R79). -/
  | dStart
  /-- `D_INIT`, `DSTATE` = 1 (40 R80). -/
  | dInit
  /-- `D_WAIT_A`, `DSTATE` = 2: the latch settle wait (40 R81). -/
  | dWaitA
  /-- `D_READ_FIRST`, `DSTATE` = 3: entry into the bit-read loop (40 R82). -/
  | dReadFirst
  /-- `D_WAIT_B`, `DSTATE` = 4: the settle wait, ending in the sample (40 R83). -/
  | dWaitB
  /-- `D_WAIT_C`, `DSTATE` = 5: the post-bit wait (40 R84). -/
  | dWaitC
  /-- `D_FINAL`, `DSTATE` = 6: the state that decodes and publishes (40 R85). -/
  | dFinal
deriving DecidableEq, Repr

end Sys2Proof
end

