-- ==== Sys2Proof/Word.lean ====
section
/-! DEFINITION. The widths of MG-SDS (00_scope R7) and the names of its encoded values (30_encoding R60 to R63). -/

namespace Sys2Proof

/-- One byte: `ACC`, `ICODE`, `WCNT`, `ELAPSED`, `PERIOD`, `FSTAT` (00_scope R7, 10_state R26 to R38). -/
abbrev Byte := BitVec 8

/-- A task's state field, `STATE_W` = 3 bits (10_state R24). -/
abbrev StateCode := BitVec 3

/-- The decoder's bit counter, `BCNT_W` = 4 bits (10_state R30). -/
abbrev BitCount := BitVec 4

/-- A slot of the scheduler's task table, in registration order (10_state R22). -/
inductive Slot where
  | slot0
  | slot1
  | slot2
deriving DecidableEq, Repr

/-- The slots in registration order (10_state R22). -/
def Slot.all : List Slot := [.slot0, .slot1, .slot2]

/-- The three tasks bound to the slots (00_scope R7 `SLOT_TASK`, 10_state R27). -/
inductive Task where
  | controllerDecoder
  | outputDispatcher
  | gameSequencer
deriving DecidableEq, Repr

/-- The eight buttons, in the order of their input codes 1 to 8 (30_encoding R63). -/
inductive Button where
  | up
  | down
  | left
  | right
  | select
  | start
  | y
  | b
deriving DecidableEq, Repr

/-- The buttons in the order of their codes (30_encoding R63). -/
def Button.all : List Button := [.up, .down, .left, .right, .select, .start, .y, .b]

/-- The seven named states of the Controller Decoder (10_state R28, 30_encoding R60). -/
inductive DState where
  | start
  | init
  | waitA
  | readFirst
  | waitB
  | waitC
  | final
deriving DecidableEq, Repr

/-- The scheduler position (10_state R36, 30_encoding R61): four positions, none reserved. -/
inductive SPos where
  | idle
  | slot0
  | slot1
  | slot2
deriving DecidableEq, Repr

/-- The two fault causes (60_exceptions R110). -/
inductive FaultCode where
  | ovr
  | badst
deriving DecidableEq, Repr

/-- The three selector fields that choose an operation (30_encoding R59, R74): the event vector, the scheduler
position and the decoder state. -/
inductive Selector where
  | ev (v : BitVec 2)
  | spos (v : BitVec 2)
  | dstate (v : BitVec 3)
deriving DecidableEq, Repr

/-- A request on the external step port (41_scheduler R102): the slot, the state value passed to its task, and the
`ICODE` the task may read while it answers (R108). -/
structure ExtRequest where
  slot : Slot
  state : StateCode
  icode : Byte
deriving DecidableEq, Repr

end Sys2Proof
end

