-- ==== Sys2Proof/Decode.lean ====
section
/-! DEFINITION. The encodings of 30_encoding: state, position and button codes (R60, R61, R63), the decoder from a
selector field to an operation (R62, R74), total and rejecting by name, and the encoder. -/

namespace Sys2Proof

/-- The code of a decoder state (30_encoding R60). -/
def DState.code : DState → StateCode
  | .start => 0b000
  | .init => 0b001
  | .waitA => 0b010
  | .readFirst => 0b011
  | .waitB => 0b100
  | .waitC => 0b101
  | .final => 0b110

/-- The decoder state of a code; 7 is reserved (30_encoding R60, R69). -/
def DState.ofCode (v : StateCode) : Option DState :=
  match v.toNat with
  | 0 => some .start
  | 1 => some .init
  | 2 => some .waitA
  | 3 => some .readFirst
  | 4 => some .waitB
  | 5 => some .waitC
  | 6 => some .final
  | _ => none

/-- The code of a scheduler position (30_encoding R61). -/
def SPos.code : SPos → BitVec 2
  | .idle => 0b00
  | .slot0 => 0b01
  | .slot1 => 0b10
  | .slot2 => 0b11

/-- The scheduler position of a code: all four are used (30_encoding R61). -/
def SPos.ofCode (v : BitVec 2) : SPos :=
  match v.getLsbD 1, v.getLsbD 0 with
  | false, false => .idle
  | false, true => .slot0
  | true, false => .slot1
  | true, true => .slot2

/-- The input code of a button, 1 to 8 (30_encoding R63). -/
def Button.code : Button → Byte
  | .up => 1
  | .down => 2
  | .left => 3
  | .right => 4
  | .select => 5
  | .start => 6
  | .y => 7
  | .b => 8

/-- The operation of a decoder state (30_encoding R60). -/
def DState.op : DState → Instr
  | .start => .dStart
  | .init => .dInit
  | .waitA => .dWaitA
  | .readFirst => .dReadFirst
  | .waitB => .dWaitB
  | .waitC => .dWaitC
  | .final => .dFinal

/-- The operation of a scheduler position (30_encoding R61). -/
def SPos.op : SPos → Instr
  | .idle => .sIdle
  | .slot0 => .sSlot0
  | .slot1 => .sSlot1
  | .slot2 => .sSlot2

/-- The event of an event vector `{RST, TICK}`; `RST` has priority, and `00` is no event (30_encoding R62). -/
def decodeEv (v : BitVec 2) : Option Instr :=
  match v.getLsbD 1, v.getLsbD 0 with
  | true, tick => some (.evRst tick)
  | false, true => some .evTick
  | false, false => none

/-- The block operation of a scheduler position code (30_encoding R61). -/
def decodeSpos (v : BitVec 2) : Instr := (SPos.ofCode v).op

/-- The decoder operation of a decoder state code; 7 selects none (30_encoding R60, R74). -/
def decodeDstate (v : StateCode) : Option Instr := (DState.ofCode v).map DState.op

/-- Why a selector field chooses no operation. -/
inductive DecodeError where
  /-- Event vector `00`: no event, "the block steps by `SPOS`" (30_encoding R62). Safe. -/
  | noEvent
  /-- Decoder state 7, reserved: it "selects no operation" (30_encoding R69, R74). Safe. -/
  | reservedDstate
deriving DecidableEq, Repr

/-- The operation a selector field chooses (30_encoding R74), total on every value of every field. -/
def decode : Selector → Except DecodeError Instr
  | .ev v =>
    match decodeEv v with
    | some i => .ok i
    | none => .error .noEvent
  | .spos v => .ok (decodeSpos v)
  | .dstate v =>
    match decodeDstate v with
    | some i => .ok i
    | none => .error .reservedDstate

/-- The selector field that chooses an operation (30_encoding R60 to R62, spec/opcode_table.json). -/
def encode : Instr → Selector
  | .evRst tick => .ev (bif tick then 0b11 else 0b10)
  | .evTick => .ev 0b01
  | .sIdle => .spos 0b00
  | .sSlot0 => .spos 0b01
  | .sSlot1 => .spos 0b10
  | .sSlot2 => .spos 0b11
  | .dStart => .dstate 0b000
  | .dInit => .dstate 0b001
  | .dWaitA => .dstate 0b010
  | .dReadFirst => .dstate 0b011
  | .dWaitB => .dstate 0b100
  | .dWaitC => .dstate 0b101
  | .dFinal => .dstate 0b110

/-- Which selector field a table word is read as (log 8). The three fields of spec/opcode_table.json have the same
words and a word does not say which field it is, so: three bits are `DSTATE`; any other length is the field a block
step with no event looks at first that has the word, `SPOS` for 0 to 3, `DSTATE` above. -/
def tableSelector (nbits w : Nat) : Option Selector :=
  if nbits = 3 then
    if w < 8 then some (.dstate (BitVec.ofNat 3 w)) else none
  else if w < 4 then some (.spos (BitVec.ofNat 2 w))
  else if w < 8 then some (.dstate (BitVec.ofNat 3 w))
  else none

/-- The operation the decoder reads from a table word (log 8). -/
def decodeTableWord (nbits w : Nat) : Option Instr :=
  match tableSelector nbits w with
  | some f => (decode f).toOption
  | none => none

end Sys2Proof
end

