-- ==== Sys2Proof/Config.lean ====
section
/-! DEFINITION. The configuration record of 00_scope R7, its legality (R8), and the open parameters and draws,
which are constants with no body. -/

namespace Sys2Proof

/-- The parameters of the block (00_scope R7), taken "as one configuration record". -/
structure Config where
  /-- `NTASKS`. -/
  nTasks : Nat
  /-- `SLOT_TASK[k]`: the task in slot k, in registration order. -/
  slotTask : Slot → Task
  /-- `STATE_W`. -/
  stateW : Nat
  /-- `PERIOD_W`. -/
  periodW : Nat
  /-- `WCNT_W`. -/
  wcntW : Nat
  /-- `BCNT_W`. -/
  bcntW : Nat
  /-- `ICODE_W`. -/
  icodeW : Nat
  /-- `PERIOD[k]`: the period of slot k, in ticks (10_state R25). -/
  period : Slot → Byte
  /-- `NBITS`: bits per read cycle. -/
  nBits : BitCount
  /-- `T_LATCH`: the `WAIT_A` dwell. -/
  tLatch : Byte
  /-- `T_SETTLE`: the `WAIT_B` dwell. -/
  tSettle : Byte
  /-- `T_POST`: the `WAIT_C` dwell. -/
  tPost : Byte
  /-- `MASK[c]`: the single-bit mask of each button (30_encoding R64); an OPEN parameter. -/
  mask : Button → Byte
  /-- `T_TICK`: the real-time interval between ticks, in a unit the spec does not name; an OPEN parameter. -/
  tTick : Nat

/-- The eight single-bit bytes (00_scope R8, 30_encoding R64). -/
def singleBitBytes : List Byte := [0x01, 0x02, 0x04, 0x08, 0x10, 0x20, 0x40, 0x80]

/-- The widths and counts that R7 fixes, and the binding of tasks to slots that is hardwired (10_state R27). -/
abbrev Config.FixedPart (c : Config) : Prop :=
  c.nTasks = 3 ∧ c.slotTask .slot0 = .controllerDecoder ∧ c.slotTask .slot1 = .outputDispatcher ∧
  c.slotTask .slot2 = .gameSequencer ∧ c.stateW = 3 ∧ c.periodW = 8 ∧ c.wcntW = 8 ∧ c.bcntW = 4 ∧ c.icodeW = 8

/-- `MASK` is a bijection from the eight codes onto the eight single-bit bytes (00_scope R8). -/
abbrev Config.MaskBijective (c : Config) : Prop :=
  (∀ k ∈ Button.all, c.mask k ∈ singleBitBytes) ∧
  (∀ k ∈ Button.all, ∀ l ∈ Button.all, c.mask k = c.mask l → k = l) ∧
  ∀ v ∈ singleBitBytes, ∃ k ∈ Button.all, c.mask k = v

/-- The legal configurations (00_scope R8): `PERIOD[k]` and the three dwells are bytes other than 0, `NBITS` is 8 and
`MASK` is a bijection. -/
abbrev Config.Legal (c : Config) : Prop :=
  c.FixedPart ∧ (∀ k ∈ Slot.all, c.period k ≠ 0) ∧ c.tLatch ≠ 0 ∧ c.tSettle ≠ 0 ∧ c.tPost ≠ 0 ∧ c.nBits = 8 ∧ c.MaskBijective

/-- OPEN parameter `MASK` (92 D10, log 3): which permutation of the default profile this hardware's mask table is.
No body: every bijection is such a permutation, and nothing can be proved of this one. -/
opaque Config.maskPermutation : Equiv.Perm Button

/-- OPEN parameter `T_TICK` (92 D25, log 4). -/
opaque Config.tickInterval : Nat

/-- Free value (00_scope R12): the event vector the block samples before a step, by draw index (log 1). -/
opaque Config.drawEvent : Nat → BitVec 2

/-- Free value (00_scope R12, `draw DATA`): the level of the data line during a step, by draw index (log 1). -/
opaque Config.drawData : Nat → Bool

/-- Free value (41_scheduler R102): what the external task answers to a request at a draw index, or nothing when it
has not answered yet. The index stands for the task's own hidden state and the environment (log 1). -/
opaque Config.extAnswer : Nat → ExtRequest → Option StateCode

end Sys2Proof
end

