-- ==== Sys2Proof/Machine/Hardware.lean ====
section
/-! DEFINITION. This hardware's values of the parameters (00_scope R7) and the figures that follow from them. -/

namespace Sys2Proof

/-- The default mask profile of 30_encoding R64 (93 G1, from general knowledge): used by vectors marked (MP), never
hard-wired. -/
def defaultMask : Button → Byte
  | .up => 0x08
  | .down => 0x04
  | .left => 0x02
  | .right => 0x01
  | .select => 0x20
  | .start => 0x10
  | .y => 0x40
  | .b => 0x80

/-- `SLOT_TASK[k]` (00_scope R7). -/
def hwSlotTask : Slot → Task
  | .slot0 => .controllerDecoder
  | .slot1 => .outputDispatcher
  | .slot2 => .gameSequencer

/-- MG-SDS's configuration (00_scope R7), with `MASK` and `T_TICK` left open. -/
def Config.mgsds : Config where
  nTasks := 3
  slotTask := hwSlotTask
  stateW := 3
  periodW := 8
  wcntW := 8
  bcntW := 4
  icodeW := 8
  period := fun _ => 1
  nBits := 8
  tLatch := 2
  tSettle := 2
  tPost := 4
  mask := fun k => defaultMask (Config.maskPermutation k)
  tTick := Config.tickInterval

/-- MG-SDS with the default mask profile (30_encoding R64): the configuration of the vectors marked (MP). -/
def Config.defaultProfile : Config := { Config.mgsds with mask := defaultMask }

/-- `T_CYCLE = 3 + T_LATCH + NBITS * (T_SETTLE + T_POST)` (40_decoder R87). -/
def Config.tCycle (c : Config) : Nat :=
  3 + c.tLatch.toNat + c.nBits.toNat * (c.tSettle.toNat + c.tPost.toNat)

/-- The real duration of a span of n ticks (70 R142). -/
def Config.duration (c : Config) (n : Nat) : Nat := n * c.tTick

/-- `TASK[k].ID`, hardwired to k (10_state R23). -/
def Slot.id : Slot → BitVec 2
  | .slot0 => 0
  | .slot1 => 1
  | .slot2 => 2

end Sys2Proof
end

