-- ==== Sys2Proof/Machine/State.lean ====
section
/-! DEFINITION. The state of MG-SDS (10_state R42), the reasons a step can stop, and the state after reset (70 R127). -/

namespace Sys2Proof.Machine

/-- No operation of MG-SDS ends in a machine fault: "MG-SDS raises no synchronous exception and has no trap"
(60_exceptions R109). The spec's own fault bits are recorded in `FSTAT` by a next state (R111). So this type has no
constructor, and nobody raises one (log 10). -/
inductive Fault where
deriving DecidableEq, Repr

/-- Why the model gives no meaning. -/
inductive Refusal where
  /-- Raised by an arm of `exec` whose instruction has no meaning yet; no arm raises it now. Safe. -/
  | notModelled (mnemonic : String)
  /-- Raised by `execIn` on a configuration that is not legal: "A configuration outside these ranges is refused: the
  model has no meaning for it" (00_scope R8). Never raised by `step`. Safe. -/
  | illegalConfig
deriving DecidableEq, Repr

/-- The written part of a task record (10_state R42); `ID` and `PERIOD` are hardwired (R23, R25). -/
structure TaskRec where
  /-- `TASK[k].STATE` (10_state R24). -/
  state : StateCode
  /-- `TASK[k].ELAPSED` (10_state R26). -/
  elapsed : Byte
deriving DecidableEq, Repr

/-- What the environment presents to the coming step: the draws of 00_scope R12, held as plain data (log 1). These
are the model's own fields, not registers of the block (10_state R41). -/
structure Inputs where
  /-- The event vector `{RST, TICK}` (30_encoding R62). -/
  ev : BitVec 2
  /-- The level of the data line, `true` = high = released (10_state R35). -/
  data : Bool
  /-- The external task's answer to the request now presented, if it has come (41_scheduler R102). -/
  ans : Option StateCode
deriving DecidableEq, Repr

/-- The complete state (10_state R42), and the model's own `inp` and `draws`. -/
@[ext]
structure State where
  /-- `TASK[0]`: the Controller Decoder's record; its `STATE` is `DSTATE` (10_state R28). -/
  task0 : TaskRec
  /-- `TASK[1]`: the Output Dispatcher's record. -/
  task1 : TaskRec
  /-- `TASK[2]`: the Game Sequencer's record. -/
  task2 : TaskRec
  /-- `WCNT`, the wait counter (10_state R29). -/
  wcnt : Byte
  /-- `BCNT`, the bit counter (10_state R30). -/
  bcnt : BitCount
  /-- `ACC`, the raw sample accumulator (10_state R31). -/
  acc : Byte
  /-- `ICODE`, the shared input code (10_state R32). -/
  icode : Byte
  /-- `LATCH`, the latch line's level, `true` = high (10_state R33). -/
  latch : Bool
  /-- `CLK`, the clock line's level, `true` = high (10_state R34). -/
  clk : Bool
  /-- `SPOS`, the scheduler position (10_state R36). -/
  spos : SPos
  /-- `TICK_PEND` (10_state R37). -/
  tickPend : Bool
  /-- `FSTAT`, the fault status register (10_state R38). -/
  fstat : Byte
  /-- The model's own: what the environment presents to the coming step (log 1). -/
  inp : Inputs
  /-- The model's own: how many times the environment has been drawn (log 1). -/
  draws : Nat
deriving DecidableEq, Repr

/-- `DSTATE` is another name for `TASK[0].STATE` (10_state R28). -/
abbrev State.dstate (s : State) : StateCode := s.task0.state

/-- The state after reset (70 R127). The inputs and the draw index are the model's own, with no event, a low data
line and no answer (log 2). -/
def State.reset : State where
  task0 := ⟨0, Config.mgsds.period .slot0⟩
  task1 := ⟨0, Config.mgsds.period .slot1⟩
  task2 := ⟨0, Config.mgsds.period .slot2⟩
  wcnt := 0
  bcnt := 0
  acc := 0x00
  icode := 0
  latch := false
  clk := false
  spos := .idle
  tickPend := false
  fstat := 0x00
  inp := ⟨0b00, false, none⟩
  draws := 0

end Sys2Proof.Machine
end

