-- ==== Sys2Proof/Machine/Flags.lean ====
section
/-! DEFINITION. The fault bits of `FSTAT` (10_state R38) and the conditions the block tests, "computed from the
registers on each step and ... not stored" (10_state R39). -/

namespace Sys2Proof.Machine

/-- The bit of `FSTAT` a fault cause sets (10_state R38, 60_exceptions R110). -/
def faultBit : FaultCode → Byte
  | .ovr => 0x01
  | .badst => 0x02

/-- `FSTAT.OVR` (10_state R38). -/
def State.ovr (s : State) : Bool := s.fstat.getLsbD 0

/-- `FSTAT.BADST` (10_state R38). -/
def State.badst (s : State) : Bool := s.fstat.getLsbD 1

/-- `WCNT >= T_x`, unsigned: the wait is over (40_decoder R76). -/
def waitOver (t : Byte) (s : State) : Bool := t.ule s.wcnt

/-- `BCNT == NBITS`: the last bit of the read cycle has been sampled (40_decoder R84). -/
def lastBitDone (c : Config) (s : State) : Bool := s.bcnt == c.nBits

end Sys2Proof.Machine
end

