-- ==== Sys2Proof/Machine/Ops.lean ====
section
/-! DEFINITION. The named operations over the registers: task records, `raise Fault`, the external step port, `DISPATCH`,
the reset of every register, the host read port, and the drawing of the environment. The block has no memory
(20_memory R45), so there is no operation over one. -/

namespace Sys2Proof.Machine

/-- The record of slot k (10_state R22). -/
def State.task (s : State) : Slot → TaskRec
  | .slot0 => s.task0
  | .slot1 => s.task1
  | .slot2 => s.task2

/-- The state with the record of slot k replaced. -/
def State.setTask (s : State) (k : Slot) (r : TaskRec) : State :=
  match k with
  | .slot0 => { s with task0 := r }
  | .slot1 => { s with task1 := r }
  | .slot2 => { s with task2 := r }

/-- `raise Fault(code)`: "sets `FSTAT[code]` to 1 and changes nothing else" (60_exceptions R111). This is the whole of
taking a fault: the block has no trap entry and no return (R114, R115). -/
def State.raise (s : State) (f : FaultCode) : State := { s with fstat := s.fstat ||| faultBit f }

/-- `TASK[k].ELAPSED == TASK[k].PERIOD`: slot k is due (41_scheduler R96). -/
def State.due (c : Config) (k : Slot) (s : State) : Bool := (s.task k).elapsed == c.period k

/-- Where the scheduler position names a slot about to be dispatched (10_state R36). -/
def slotAt : SPos → Option Slot
  | .idle => none
  | .slot0 => some .slot0
  | .slot1 => some .slot1
  | .slot2 => some .slot2

/-- The position after a slot has been visited: slots in the order 0, 1, 2, then `IDLE` (41_scheduler R93, R100). -/
def posAfter : Slot → SPos
  | .slot0 => .slot1
  | .slot1 => .slot2
  | .slot2 => .idle

/-- The request the block presents on the step port: when it is about to dispatch slot 1 or 2 and that slot is due
(41_scheduler R102). -/
def extRequest (c : Config) (s : State) : Option ExtRequest :=
  match s.spos with
  | .idle => none
  | .slot0 => none
  | .slot1 => if s.due c .slot1 then some ⟨.slot1, s.task1.state, s.icode⟩ else none
  | .slot2 => if s.due c .slot2 then some ⟨.slot2, s.task2.state, s.icode⟩ else none

/-- `ExtStep(k, .)`: the answer on the step port, taken; absent while the task has not answered (41_scheduler R102).
It writes no register of the block. -/
def extStep (s : State) : Option (State × StateCode) :=
  match s.inp.ans with
  | some a => some ({ s with inp := { s.inp with ans := none } }, a)
  | none => none

/-- `TASK[k].ELAPSED <- (TASK[k].ELAPSED + 1)[7:0]` (41_scheduler R96). -/
def bumpElapsed (k : Slot) (s : State) : State :=
  s.setTask k { s.task k with elapsed := (s.task k).elapsed + 1 }

/-- `TASK[k].STATE <- result` and `TASK[k].ELAPSED <- 0`, done "only after the step has returned" (41_scheduler R96). -/
def storeResult (k : Slot) (r : State × StateCode) : State := r.1.setTask k ⟨r.2, 0⟩

/-- `DISPATCH(k)` over the step of slot k (41_scheduler R96); absent while the step has not returned. -/
def dispatch (c : Config) (k : Slot) (step : State → Option (State × StateCode)) (s : State) : Option State :=
  if s.due c k then
    match step s with
    | some r => some (bumpElapsed k (storeResult k r))
    | none => none
  else some (bumpElapsed k s)

/-- Every register written as `EV_RST` writes it (70 R125); an outstanding request is withdrawn and its answer
discarded. -/
def resetRegisters (c : Config) (s : State) : State where
  task0 := ⟨0, c.period .slot0⟩
  task1 := ⟨0, c.period .slot1⟩
  task2 := ⟨0, c.period .slot2⟩
  wcnt := 0
  bcnt := 0
  acc := 0x00
  icode := 0
  latch := false
  clk := false
  spos := .idle
  tickPend := false
  fstat := 0x00
  inp := { s.inp with ans := none }
  draws := s.draws

/-- The registers a host may read (60_exceptions R124). -/
inductive HostReg where
  | icode
  | latch
  | clk
  | fstat
deriving DecidableEq, Repr

/-- The host read port: the register's value, without side effect (60_exceptions R124); a line is bit 0 of the byte
(log 15). -/
def hostRead (s : State) : HostReg → Byte
  | .icode => s.icode
  | .latch => (BitVec.ofBool s.latch).zeroExtend 8
  | .clk => (BitVec.ofBool s.clk).zeroExtend 8
  | .fstat => s.fstat

/-- The answer on the step port for the coming step: one given and not yet taken stands while its request does; a
request with none is answered, or not yet, by a fresh draw (41_scheduler R102, log 6). -/
def nextAnswer (s : State) : Option StateCode :=
  match extRequest Config.mgsds s with
  | none => none
  | some r =>
    match s.inp.ans with
    | some a => some a
    | none => Config.extAnswer s.draws r

/-- The environment's draw for the coming step (00_scope R12, log 1). -/
def State.redraw (s : State) : State :=
  { s with
    inp := ⟨Config.drawEvent s.draws, Config.drawData s.draws, nextAnswer s⟩
    draws := s.draws + 1 }

end Sys2Proof.Machine
end

