-- ==== Sys2Proof/Machine/Event.lean ====
section
/-! DEFINITION. The two input events: `EV_RST` (70 R125) and `EV_TICK` (41_scheduler R94). -/

namespace Sys2Proof.Machine

/-- The tick input fires: `TICK_PEND` is set, or, when it already is, `OVR` is raised and the tick is lost
(41_scheduler R94). -/
def tickArrives (s : State) : State :=
  if s.tickPend then s.raise .ovr else { s with tickPend := true }

/-- `EV_RST`: every register is written; the `TICK` bit is ignored (70 R125, 30_encoding R62). -/
def execEvRst (_tick : Bool) (s : State) : Host.Outcome State Fault Refusal :=
  .next (resetRegisters Config.mgsds s)

/-- `EV_TICK` (41_scheduler R94). -/
def execEvTick (s : State) : Host.Outcome State Fault Refusal := .next (tickArrives s)

end Sys2Proof.Machine
end

