-- ==== Sys2Proof/Machine/Operands.lean ====
section
/-! DEFINITION. Operand assembly (30_encoding R65 to R67) and the writes to the raw sample accumulator. -/

namespace Sys2Proof.Machine

/-- The MSB-first shift of one sampled bit into the accumulator: `((ACC << 1) | zext_8(d))[7:0]` (40_decoder R78). -/
def shiftIn (acc : Byte) (d : Bool) : Byte := (acc <<< 1) ||| (BitVec.ofBool d).zeroExtend 8

/-- The byte matched in `FINAL`, `INV = ~ACC` (30_encoding R66). -/
def invert (acc : Byte) : Byte := ~~~acc

/-- `DECODE(INV)`: the code of the button whose mask equals the byte, and 0 ("none") when no mask does
(30_encoding R67). -/
def decodeInv (mask : Button → Byte) (inv : Byte) : Byte :=
  match Button.all.find? (fun k => mask k == inv) with
  | some k => k.code
  | none => 0

/-- `SAMPLE()`: the data line's level is shifted into `ACC` and `BCNT` counts it, at 4 bits (40_decoder R78). -/
def sample (s : State) : State := { s with acc := shiftIn s.acc s.inp.data, bcnt := s.bcnt + 1 }

end Sys2Proof.Machine
end

