-- ==== Sys2Proof/Machine/Decoder.lean ====
section
/-! DEFINITION. The Controller Decoder (40_decoder): the two passes and the output drive of its step, one definition per
decoder state, and the meanings of the seven `D_` operations. -/

namespace Sys2Proof.Machine

/-- The action pass `A(x)` of the new state (40_decoder R79 to R85). -/
def actionPass (c : Config) (x : DState) (s : State) : State :=
  match x with
  | .start => s
  | .init => { s with bcnt := 0, acc := 0x00 }
  | .waitA => { s with wcnt := s.wcnt + 1 }
  | .readFirst => s
  | .waitB => { s with wcnt := s.wcnt + 1 }
  | .waitC => { s with wcnt := s.wcnt + 1 }
  | .final => { s with icode := decodeInv c.mask (invert s.acc) }

/-- The output drive `OUT(x)`, a function of the new state alone (40_decoder R77). -/
def outputDrive (x : DState) (s : State) : State :=
  { s with latch := x == .init || x == .waitA, clk := x == .waitB }

/-- The rest of a decoder step after its transition pass took it from x to x': `WCNT <- 0` on a change (40_decoder
R76), the action pass, the output drive, and the code returned (R75). -/
def finishStep (c : Config) (x x' : DState) (s : State) : State × StateCode :=
  (outputDrive x' (actionPass c x' (if x' = x then s else { s with wcnt := 0 })), x'.code)

/-- The decoder step that starts in `START` (40_decoder R79). -/
def stepStart (c : Config) (s : State) : State × StateCode := finishStep c .start .init s

/-- The decoder step that starts in `INIT` (40_decoder R80). -/
def stepInit (c : Config) (s : State) : State × StateCode := finishStep c .init .waitA s

/-- The decoder step that starts in `WAIT_A` (40_decoder R81). -/
def stepWaitA (c : Config) (s : State) : State × StateCode :=
  if waitOver c.tLatch s then finishStep c .waitA .readFirst s else finishStep c .waitA .waitA s

/-- The decoder step that starts in `READ_FIRST`; it samples nothing (40_decoder R82, 90 C1). -/
def stepReadFirst (c : Config) (s : State) : State × StateCode := finishStep c .readFirst .waitB s

/-- The decoder step that starts in `WAIT_B`; its edge to `WAIT_C` samples (40_decoder R83). -/
def stepWaitB (c : Config) (s : State) : State × StateCode :=
  if waitOver c.tSettle s then finishStep c .waitB .waitC (sample s) else finishStep c .waitB .waitB s

/-- The decoder step that starts in `WAIT_C` (40_decoder R84). -/
def stepWaitC (c : Config) (s : State) : State × StateCode :=
  if waitOver c.tPost s then
    if lastBitDone c s then finishStep c .waitC .final s else finishStep c .waitC .waitB s
  else finishStep c .waitC .waitC s

/-- The decoder step that starts in `FINAL` (40_decoder R85); what publishes is `A(FINAL)`, on the step that ends
there. -/
def stepFinal (c : Config) (s : State) : State × StateCode := finishStep c .final .init s

/-- `DecoderStep()` (40_decoder R75): the step that `DSTATE` selects. The reserved code 7 raises `BADST`, returns 7 and
writes nothing else (R86). -/
def decoderStep (c : Config) (s : State) : State × StateCode :=
  match DState.ofCode s.dstate with
  | some .start => stepStart c s
  | some .init => stepInit c s
  | some .waitA => stepWaitA c s
  | some .readFirst => stepReadFirst c s
  | some .waitB => stepWaitB c s
  | some .waitC => stepWaitC c s
  | some .final => stepFinal c s
  | none => (s.raise .badst, s.dstate)

/-- The result of a decoder step stored in `DSTATE` (10_state R24, 40_decoder R75). -/
def storeDstate (r : State × StateCode) : State := { r.1 with task0 := { r.1.task0 with state := r.2 } }

/-- `D_START` (40_decoder R79). -/
def execDStart (s : State) : Host.Outcome State Fault Refusal := .next (storeDstate (stepStart Config.mgsds s))

/-- `D_INIT` (40_decoder R80). -/
def execDInit (s : State) : Host.Outcome State Fault Refusal := .next (storeDstate (stepInit Config.mgsds s))

/-- `D_WAIT_A` (40_decoder R81). -/
def execDWaitA (s : State) : Host.Outcome State Fault Refusal := .next (storeDstate (stepWaitA Config.mgsds s))

/-- `D_READ_FIRST` (40_decoder R82). -/
def execDReadFirst (s : State) : Host.Outcome State Fault Refusal :=
  .next (storeDstate (stepReadFirst Config.mgsds s))

/-- `D_WAIT_B` (40_decoder R83). -/
def execDWaitB (s : State) : Host.Outcome State Fault Refusal := .next (storeDstate (stepWaitB Config.mgsds s))

/-- `D_WAIT_C` (40_decoder R84). -/
def execDWaitC (s : State) : Host.Outcome State Fault Refusal := .next (storeDstate (stepWaitC Config.mgsds s))

/-- `D_FINAL` (40_decoder R85). -/
def execDFinal (s : State) : Host.Outcome State Fault Refusal := .next (storeDstate (stepFinal Config.mgsds s))

end Sys2Proof.Machine
end

