-- ==== Sys2Proof/Machine/Scheduler.lean ====
section
/-! DEFINITION. The Scheduler's four block operations (41_scheduler R95 to R99). -/

namespace Sys2Proof.Machine

/-- The step bound to slot k, hardwired (10_state R27, 41_scheduler R96): the decoder step, which always returns
(R101), or the external step port. -/
def stepOf (c : Config) : Slot → State → Option (State × StateCode)
  | .slot0 => fun s => some (decoderStep c s)
  | .slot1 => extStep
  | .slot2 => extStep

/-- `S_SLOTk`: dispatch the slot and move the position on; while its step has not returned, hold with nothing written
(41_scheduler R97 to R99, R102). -/
def visitSlot (c : Config) (k : Slot) (s : State) : State :=
  match dispatch c k (stepOf c k) s with
  | some t => { t with spos := posAfter k }
  | none => s

/-- `S_IDLE`: accept a pending tick, or hold (41_scheduler R95). -/
def acceptTick (s : State) : State :=
  if s.tickPend then { s with tickPend := false, spos := .slot0 } else s

/-- `S_IDLE` (41_scheduler R95). -/
def execSIdle (s : State) : Host.Outcome State Fault Refusal := .next (acceptTick s)

/-- `S_SLOT0` (41_scheduler R97). -/
def execSSlot0 (s : State) : Host.Outcome State Fault Refusal := .next (visitSlot Config.mgsds .slot0 s)

/-- `S_SLOT1` (41_scheduler R98). -/
def execSSlot1 (s : State) : Host.Outcome State Fault Refusal := .next (visitSlot Config.mgsds .slot1 s)

/-- `S_SLOT2` (41_scheduler R99). -/
def execSSlot2 (s : State) : Host.Outcome State Fault Refusal := .next (visitSlot Config.mgsds .slot2 s)

end Sys2Proof.Machine
end

