-- ==== Sys2Proof/Machine/Dispatch.lean ====
section
/-! DEFINITION. One arm per operation (spec/opcode_table.json). -/

namespace Sys2Proof.Machine

def exec (i : Instr) (s : State) : Host.Outcome State Fault Refusal :=
  match i with
  | .evRst tick => Sys2Proof.Machine.execEvRst tick s
  | .evTick => Sys2Proof.Machine.execEvTick s
  | .sIdle => Sys2Proof.Machine.execSIdle s
  | .sSlot0 => Sys2Proof.Machine.execSSlot0 s
  | .sSlot1 => Sys2Proof.Machine.execSSlot1 s
  | .sSlot2 => Sys2Proof.Machine.execSSlot2 s
  | .dStart => Sys2Proof.Machine.execDStart s
  | .dInit => Sys2Proof.Machine.execDInit s
  | .dWaitA => Sys2Proof.Machine.execDWaitA s
  | .dReadFirst => Sys2Proof.Machine.execDReadFirst s
  | .dWaitB => Sys2Proof.Machine.execDWaitB s
  | .dWaitC => Sys2Proof.Machine.execDWaitC s
  | .dFinal => Sys2Proof.Machine.execDFinal s

end Sys2Proof.Machine
end

