-- ==== Sys2Proof/Machine/Fetch.lean ====
section
/-! DEFINITION. How the block selects what its next step does (30_encoding R62): the event vector first, then the scheduler
position. -/

namespace Sys2Proof.Machine

/-- The selector field the coming step looks at: an event when the event vector holds one, otherwise the scheduler
position ("the block steps by `SPOS`", 30_encoding R62). -/
def selectorOf (s : State) : Selector :=
  match decodeEv s.inp.ev with
  | some _ => .ev s.inp.ev
  | none => .spos s.spos.code

/-- The operation the coming step performs. A decoder operation is performed inside `S_SLOT0` (30_encoding R74), so it
is never selected here. -/
def fetch (s : State) : Instr :=
  match decodeEv s.inp.ev with
  | some i => i
  | none => decodeSpos s.spos.code

/-- The state with a selector field presented where the coming step looks for it (log 9): an event vector on the
inputs; a scheduler position with no event; a decoder state in `DSTATE`, with slot 0 due and about to be dispatched. -/
def State.present (s : State) : Selector → State
  | .ev v => { s with inp := { s.inp with ev := v } }
  | .spos v => { s with inp := { s.inp with ev := 0b00 }, spos := SPos.ofCode v }
  | .dstate v =>
    { s with
      inp := { s.inp with ev := 0b00 }
      spos := .slot0
      task0 := ⟨v, Config.mgsds.period .slot0⟩ }

end Sys2Proof.Machine
end

