-- ==== Sys2Proof/Machine/Step.lean ====
section
/-! DEFINITION. One step of the machine: an event or a block operation (30_encoding R62), then the environment's draw for
the next (00_scope R12). -/

namespace Sys2Proof.Machine

/-- One step (60_exceptions R113): the selected operation, and a fresh draw of the inputs. -/
def step (s : State) : Host.Outcome State Fault Refusal :=
  match exec (fetch s) s with
  | .next t => .next t.redraw
  | .fault f => .fault f
  | .refused r => .refused r

/-- The state with a table word presented where the next step looks for it (log 8, log 9). -/
def State.withFetchWord (s : State) (nbits w : Nat) : State :=
  match tableSelector nbits w with
  | some f => s.present f
  | none => s

end Sys2Proof.Machine
end

