-- ==== Sys2Proof/Machine/Configured.lean ====
section
/-! DEFINITION. The operations under any configuration of 00_scope R7, and the refusal of an illegal one (R8). -/

namespace Sys2Proof.Machine

/-- The effect of an operation under a configuration. -/
def effect (c : Config) (i : Instr) (s : State) : State :=
  match i with
  | .evRst _ => resetRegisters c s
  | .evTick => tickArrives s
  | .sIdle => acceptTick s
  | .sSlot0 => visitSlot c .slot0 s
  | .sSlot1 => visitSlot c .slot1 s
  | .sSlot2 => visitSlot c .slot2 s
  | .dStart => storeDstate (stepStart c s)
  | .dInit => storeDstate (stepInit c s)
  | .dWaitA => storeDstate (stepWaitA c s)
  | .dReadFirst => storeDstate (stepReadFirst c s)
  | .dWaitB => storeDstate (stepWaitB c s)
  | .dWaitC => storeDstate (stepWaitC c s)
  | .dFinal => storeDstate (stepFinal c s)

/-- An operation under a configuration; "a configuration outside these ranges is refused" (00_scope R8). -/
def execIn (c : Config) (i : Instr) (s : State) : Host.Outcome State Fault Refusal :=
  if c.Legal then .next (effect c i s) else .refused .illegalConfig

end Sys2Proof.Machine
end

