-- ==== Sys2Proof/Machine/Round.lean ====
section
/-! DEFINITION. The tick-atomic form of the block (41_scheduler R105) and runs of rounds and of decoder steps (70 R129). -/

namespace Sys2Proof.Machine

/-- What the environment gives one round (00_scope R12): the data level, and the answers of slots 1 and 2. -/
structure RoundEnv where
  data : Bool
  ans1 : StateCode
  ans2 : StateCode
deriving DecidableEq, Repr

/-- The inputs of one block step of a round: no event, the round's data level, an answer on the step port. -/
def State.feed (s : State) (d : Bool) (a : Option StateCode) : State := { s with inp := ⟨0b00, d, a⟩ }

/-- `DISPATCH(k)` with a step that has returned (41_scheduler R96, R105). -/
def dispatchDone (c : Config) (k : Slot) (step : State → State × StateCode) (s : State) : State :=
  match dispatch c k (fun t => some (step t)) s with
  | some t => t
  | none => s

/-- The state with the data line at a level. -/
def State.withData (s : State) (d : Bool) : State := { s with inp := { s.inp with data := d } }

/-- `ROUND()`: the three slots dispatched in registration order, slot 0 by the decoder step, slots 1 and 2 by the answers
of their tasks (41_scheduler R105). -/
def roundOnce (c : Config) (e : RoundEnv) (s : State) : State :=
  dispatchDone c .slot2 (fun t => (t, e.ans2))
    (dispatchDone c .slot1 (fun t => (t, e.ans1))
      (dispatchDone c .slot0 (fun t => decoderStep c (t.withData e.data)) s))

/-- A run of n rounds, tick t under `env t` (70 R126, R129). -/
def rounds (c : Config) (env : Nat → RoundEnv) : Nat → State → State
  | 0, s => s
  | n + 1, s => roundOnce c (env (n + 1)) (rounds c env n s)

/-- One decoder step with its result stored, under a data level (40_decoder R75). -/
def decoderTick (c : Config) (d : Bool) (s : State) : State :=
  storeDstate (decoderStep c (s.withData d))

/-- A run of n decoder steps, the m-th under the data level `data m`. -/
def decoderTicks (c : Config) (data : Nat → Bool) : Nat → State → State
  | 0, s => s
  | n + 1, s => decoderTick c (data (n + 1)) (decoderTicks c data n s)

/-- The offset within a read cycle of the sample of bit i, i = 1 .. 8, counted from the `INIT` tick: `S_i - I_n`
(40_decoder R87). -/
def sampleOffset (c : Config) (i : Nat) : Nat :=
  c.tLatch.toNat + 2 + c.tSettle.toNat + (i - 1) * (c.tSettle.toNat + c.tPost.toNat)

/-- The `INIT` tick of read cycle n = 1, 2, ...: `I_n` (40_decoder R87). -/
def initTick (c : Config) (n : Nat) : Nat := 1 + (n - 1) * c.tCycle

/-- The sample tick of bit i of cycle n: `S_i` (40_decoder R87). -/
def sampleTick (c : Config) (n i : Nat) : Nat := initTick c n + sampleOffset c i

/-- The `FINAL` tick of cycle n: `F_n = S_8 + T_POST` (40_decoder R87). -/
def finalTick (c : Config) (n : Nat) : Nat := sampleTick c n 8 + c.tPost.toNat

/-- The decoder's post-state at an offset of the read cycle from its `INIT` tick (40_decoder R87). -/
def scheduleAt (c : Config) (o : Nat) : DState :=
  if o = 0 then .init
  else if o ≤ c.tLatch.toNat then .waitA
  else if o = c.tLatch.toNat + 1 then .readFirst
  else if o + 1 = c.tCycle then .final
  else if (o - (c.tLatch.toNat + 2)) % (c.tSettle.toNat + c.tPost.toNat) < c.tSettle.toNat then .waitB
  else .waitC

end Sys2Proof.Machine
end

