-- ==== Sys2Proof/Machine/Stim.lean ====
section
/-! DEFINITION. The stimulus notation of 30_encoding R72 and its 16-bit words (R73). It is a test harness, not
hardware (92 D23). -/

namespace Sys2Proof

/-- The two stubs that stand in for an external task (30_encoding R72). -/
inductive StubId where
  /-- `ID`: the answer is the state passed. -/
  | keep
  /-- `ECHO`: the answer is `ICODE[2:0]`. -/
  | echo
deriving DecidableEq, Repr

/-- A statement of a stimulus script (30_encoding R72). -/
inductive Stim where
  | rst
  | ticks (n : Nat) (d : Bool)
  | stub (k : Nat) (id : StubId)
deriving DecidableEq, Repr

/-- Why the script reader refuses a word (30_encoding R69, R73). -/
inductive StimError where
  /-- `TICKS` with n = 0. -/
  | noTicks
  /-- `RST` with a low bit set. -/
  | reservedRst
  /-- `STUB` for a slot other than 1 or 2. -/
  | badSlot
  /-- `STUB` with a stub id other than 0 or 1. -/
  | badStub
deriving DecidableEq, Repr

/-- The id bits of a stub (30_encoding R73). -/
def StubId.code : StubId → BitVec 12
  | .keep => 0x000
  | .echo => 0x001

/-- The 16-bit word of a statement (30_encoding R73); `n` and `k` are taken at their field's width. -/
def encodeStim : Stim → BitVec 16
  | .rst => 0x8000
  | .ticks n d => 0#1 ++ BitVec.ofBool d ++ BitVec.ofNat 14 n
  | .stub k id => 0b11#2 ++ BitVec.ofNat 2 k ++ id.code

/-- The script reader (30_encoding R73): `w[15]` = 0 is `TICKS`, `w[15:14]` = 10 is `RST`, 11 is `STUB`; every
reserved word is refused by name. -/
def decodeStim (w : BitVec 16) : Except StimError Stim :=
  if w.getLsbD 15 = false then
    if (w.extractLsb' 0 14).toNat = 0 then .error .noTicks
    else .ok (.ticks (w.extractLsb' 0 14).toNat (w.getLsbD 14))
  else if w.getLsbD 14 = false then
    if w.extractLsb' 0 14 = 0 then .ok .rst else .error .reservedRst
  else if w.extractLsb' 12 2 = 1 ∨ w.extractLsb' 12 2 = 2 then
    if w.extractLsb' 0 12 = 0x000 then .ok (.stub (w.extractLsb' 12 2).toNat .keep)
    else if w.extractLsb' 0 12 = 0x001 then .ok (.stub (w.extractLsb' 12 2).toNat .echo)
    else .error .badStub
  else .error .badSlot

end Sys2Proof
end

