-- ==== Sys2Proof/Machine/StimRun.lean ====
section
/-! DEFINITION. What a stimulus script does (30_encoding R72): the test harness over the block (92 D23). -/

namespace Sys2Proof.Machine

/-- The stubs in place and the block under test. -/
structure Bench where
  stub1 : StubId
  stub2 : StubId
  dut : State
deriving DecidableEq, Repr

/-- "Before any `STUB` statement both external slots use `ID`" (30_encoding R72). -/
def Bench.ofState (s : State) : Bench := ⟨.keep, .keep, s⟩

/-- What a stub answers to a request: the state passed, or `ICODE[2:0]` as read during the step (30_encoding R72). -/
def stubAnswer : StubId → ExtRequest → StateCode
  | .keep, r => r.state
  | .echo, r => r.icode.extractLsb' 0 3

/-- The answer of the stub of the slot that is asked. -/
def Bench.answer (c : Config) (bench : Bench) : Option StateCode :=
  match extRequest c bench.dut with
  | none => none
  | some r => some (stubAnswer (if r.slot = .slot1 then bench.stub1 else bench.stub2) r)

/-- One step of the block under a given event vector and data level, its request answered by the stub. The
configuration is an argument, since a claim about decoded codes names its `MASK` (30_encoding R64). -/
def Bench.clock (c : Config) (ev : BitVec 2) (d : Bool) (bench : Bench) : Bench :=
  let s := { bench.dut with inp := ⟨ev, d, bench.answer c⟩ }
  { bench with dut := effect c (fetch s) s }

/-- One tick: `EV_TICK`, then its complete round before the next event (30_encoding R72). -/
def Bench.tick (c : Config) (d : Bool) (bench : Bench) : Bench :=
  Bench.clock c 0b00 d (Bench.clock c 0b00 d (Bench.clock c 0b00 d (Bench.clock c 0b00 d (Bench.clock c 0b01 d bench))))

/-- n ticks in a row. -/
def Bench.ticks (c : Config) (d : Bool) : Nat → Bench → Bench
  | 0, bench => bench
  | n + 1, bench => Bench.ticks c d n (Bench.tick c d bench)

/-- What a statement does (30_encoding R72). -/
def Bench.run (c : Config) : Stim → Bench → Bench
  | .rst, bench => Bench.clock c 0b10 false bench
  | .ticks n d, bench => Bench.ticks c d n bench
  | .stub k id, bench => if k = 1 then { bench with stub1 := id } else { bench with stub2 := id }

/-- A script of stimulus words; a reserved word is refused by name (30_encoding R73). -/
def Bench.script (c : Config) : List (BitVec 16) → Bench → Except StimError Bench
  | [], bench => .ok bench
  | w :: ws, bench =>
    match decodeStim w with
    | .ok st => Bench.script c ws (Bench.run c st bench)
    | .error e => .error e

end Sys2Proof.Machine
end

