-- ==== Sys2Proof/Safety.lean ====
section
/-! DEFINITION. What a claim may rely on: unfaulted states (00_scope R13) and the reachable-state invariants (10_state R43). -/

namespace Sys2Proof.Machine

/-- "A model must treat every state with `FSTAT != 0` as faulted" (00_scope R13). -/
def State.Faulted (s : State) : Prop := s.fstat ≠ 0

/-- `FSTAT` bits 7:2 are reserved: "read as 0, never set" (10_state R38). -/
def State.ReservedFstatZero (s : State) : Prop := ∀ i, 2 ≤ i → i < 8 → s.fstat.getLsbD i = false

/-- What R43 items 1, 2, 3 and 5 say of the decoder's registers in each decoder state, for this hardware's dwells
2, 2, 4. The lower bounds of `WCNT` and of `BCNT` in `WAIT_B` and `WAIT_C` make it one that each step keeps. -/
def State.DecoderInv (s : State) : Prop :=
  match DState.ofCode s.dstate with
  | some .start => s.bcnt = 0 ∧ s.wcnt = 0 ∧ s.latch = false ∧ s.clk = false
  | some .init => s.bcnt = 0 ∧ s.wcnt = 0 ∧ s.latch = true ∧ s.clk = false
  | some .waitA => s.bcnt = 0 ∧ (1 ≤ s.wcnt.toNat ∧ s.wcnt.toNat ≤ 2) ∧ s.latch = true ∧ s.clk = false
  | some .readFirst => s.bcnt = 0 ∧ s.wcnt = 0 ∧ s.latch = false ∧ s.clk = false
  | some .waitB => s.bcnt.toNat ≤ 7 ∧ (1 ≤ s.wcnt.toNat ∧ s.wcnt.toNat ≤ 2) ∧ s.latch = false ∧ s.clk = true
  | some .waitC =>
    (1 ≤ s.bcnt.toNat ∧ s.bcnt.toNat ≤ 8) ∧ (1 ≤ s.wcnt.toNat ∧ s.wcnt.toNat ≤ 4) ∧ s.latch = false ∧ s.clk = false
  | some .final => s.bcnt = 8 ∧ s.wcnt = 0 ∧ s.latch = false ∧ s.clk = false
  | none => False

/-- The reachable-state invariant of 10_state R43 for this hardware, with the reserved bits of `FSTAT` (R38), `BADST`
never raised, and no more bits in `ACC` than have been sampled (30_encoding R65). -/
def State.Inv (s : State) : Prop :=
  s.DecoderInv ∧ s.icode.toNat ≤ 8 ∧ s.acc.toNat < 2 ^ s.bcnt.toNat ∧
  s.task0.elapsed = 1 ∧ s.task1.elapsed = 1 ∧ s.task2.elapsed = 1 ∧ s.ReservedFstatZero ∧ s.badst = false

end Sys2Proof.Machine
end

