-- ==== Sys2Proof/WellFormed.lean ====
section
/-! DEFINITION. What is well formed: an operation, a stimulus statement (30_encoding R69, R72), a configuration
(00_scope R8). -/

namespace Sys2Proof

/-- An operation has no operand of restricted range: the one field, `EV_RST`'s ignored bit, may be 0 or 1
(30_encoding R62, R70). -/
def Instr.wf : Instr → Bool
  | .evRst _ => true
  | .evTick => true
  | .sIdle => true
  | .sSlot0 => true
  | .sSlot1 => true
  | .sSlot2 => true
  | .dStart => true
  | .dInit => true
  | .dWaitA => true
  | .dReadFirst => true
  | .dWaitB => true
  | .dWaitC => true
  | .dFinal => true

/-- A stimulus statement is well formed when `1 <= n <= 16383` ticks are asked for, and when a stub is for slot 1 or
2 (30_encoding R69, R72). -/
def Stim.wf : Stim → Bool
  | .rst => true
  | .ticks n _ => decide (1 ≤ n) && decide (n ≤ 16383)
  | .stub k _ => decide (k = 1) || decide (k = 2)

/-- The check of a configuration that 00_scope R8 asks for; what it refuses has no meaning. -/
def Config.wf (c : Config) : Bool := decide c.Legal

end Sys2Proof
end

