-- ==== Sys2Proof/Certificates/Slice0/Obligations.lean ====
section
/-! DEFINITION. The statements for the provers, from the numbered rules of spec/. A docstring says where a statement
rests on a decision of the spec (D<n>) or of the model (log <n>). -/

open Sys2Proof Sys2Proof.Machine

/-! ## Selecting an operation -/

/-- When the selected field decodes to an operation, the step is `exec` of it and then the environment's draw (R62,
whose event vector is the spec's decision D22; the draw is the model's, log 1). Every state selects an operation. -/
def Obligations.StepRunsSelectedOperation : Prop :=
  (∀ s, ∃ i, decode (selectorOf s) = .ok i ∧ i.wf = true) ∧
  ∀ s i, decode (selectorOf s) = .ok i → i.wf = true →
    step s = match exec i s with
      | .next t => .next t.redraw
      | .fault f => .fault f
      | .refused r => .refused r

/-- What the step adds around `exec` (the model's convention, logs 1 and 6): it changes no register, advances the draw
index, and shows an answer only to a standing request, keeping one already given. -/
def Obligations.RedrawChangesOnlyTheInputs : Prop :=
  ∀ t : State, t.redraw = { t with inp := t.redraw.inp, draws := t.draws + 1 } ∧
    (extRequest Config.mgsds t = none → t.redraw.inp.ans = none) ∧
    (∀ r a, extRequest Config.mgsds t = some r → t.inp.ans = some a → t.redraw.inp.ans = some a) ∧
    (∀ r, extRequest Config.mgsds t = some r → t.inp.ans = none →
      t.redraw.inp.ans = Config.extAnswer t.draws r)

/-- The words of R60, R61 and R62 (encodings that are the spec's own decisions D3, D4, D22) decode to the operations
they stand for, and the two that select none are rejected by name. -/
def Obligations.SelectorWordsDecodeAsListed : Prop :=
  decode (.ev 0b10) = .ok (.evRst false) ∧ decode (.ev 0b11) = .ok (.evRst true) ∧
  decode (.ev 0b01) = .ok .evTick ∧ decode (.ev 0b00) = .error .noEvent ∧
  decode (.spos 0b00) = .ok .sIdle ∧ decode (.spos 0b01) = .ok .sSlot0 ∧ decode (.spos 0b10) = .ok .sSlot1 ∧
  decode (.spos 0b11) = .ok .sSlot2 ∧
  decode (.dstate 0b000) = .ok .dStart ∧ decode (.dstate 0b001) = .ok .dInit ∧
  decode (.dstate 0b010) = .ok .dWaitA ∧ decode (.dstate 0b011) = .ok .dReadFirst ∧
  decode (.dstate 0b100) = .ok .dWaitB ∧ decode (.dstate 0b101) = .ok .dWaitC ∧
  decode (.dstate 0b110) = .ok .dFinal ∧ decode (.dstate 0b111) = .error .reservedDstate

/-- Decode and encode agree in both directions: no bit of a selector field is dropped. -/
def Obligations.DecodeEncodeRoundTrip : Prop :=
  (∀ i : Instr, i.wf = true → decode (encode i) = .ok i) ∧ ∀ f i, decode f = .ok i → encode i = f

/-- A reset in the event vector wins over the tick and over every block operation, and ends in the reset state of R127
(R113.1, the spec's decision D22); the inputs, the draw index and the discarded answer are the model's (logs 1 and 6). -/
def Obligations.ResetHasPriority : Prop :=
  ∀ s : State, s.inp.ev.getLsbD 1 = true →
    step s = .next (State.redraw { State.reset with inp := { s.inp with ans := none }, draws := s.draws })

/-! ## Events -/

/-- `EV_RST` writes every register as R125 and R127 list them, whatever the `TICK` bit (the values are the spec's
decisions D12 to D18, D22); the answer of a withdrawn request is discarded, the draw index kept. -/
def Obligations.ResetWritesEveryRegister : Prop :=
  ∀ tick s, exec (.evRst tick) s = .next
    { task0 := ⟨0, 1⟩, task1 := ⟨0, 1⟩, task2 := ⟨0, 1⟩, wcnt := 0, bcnt := 0, acc := 0, icode := 0,
      latch := false, clk := false, spos := .idle, tickPend := false, fstat := 0,
      inp := { s.inp with ans := none }, draws := s.draws }

/-- The state after reset holds the values of R127 (the spec's decisions D3, D4, D12 to D18); nothing is said of the
model's own fields (log 2). -/
def Obligations.ResetStateHoldsListedValues : Prop :=
  State.reset.task0 = ⟨0, 1⟩ ∧ State.reset.task1 = ⟨0, 1⟩ ∧ State.reset.task2 = ⟨0, 1⟩ ∧
  State.reset.wcnt = 0 ∧ State.reset.bcnt = 0 ∧ State.reset.acc = 0 ∧ State.reset.icode = 0 ∧
  State.reset.latch = false ∧ State.reset.clk = false ∧ State.reset.spos = .idle ∧
  State.reset.tickPend = false ∧ State.reset.fstat = 0

/-- `EV_TICK` with nothing pending sets `TICK_PEND` and nothing else, in every position (R94; one pending flag is the
spec's decision D17). -/
def Obligations.TickSetsPending : Prop :=
  ∀ s, s.tickPend = false → exec .evTick s = .next { s with tickPend := true }

/-- `EV_TICK` while a tick is pending sets `FSTAT` bit 0 and nothing else: the tick is lost (R94, R110, R111, the spec's
decisions D17, D18). -/
def Obligations.SecondPendingTickOverruns : Prop :=
  ∀ s, s.tickPend = true → ∃ t, exec .evTick s = .next t ∧ t = { s with fstat := t.fstat } ∧
    t.fstat.getLsbD 0 = true ∧ ∀ i, i ≠ 0 → t.fstat.getLsbD i = s.fstat.getLsbD i

/-! ## Scheduler operations -/

/-- `S_IDLE` accepts a pending tick: `TICK_PEND` cleared, `SPOS` at slot 0, nothing else (R95, the spec's decision D4). -/
def Obligations.IdleAcceptsPendingTick : Prop :=
  ∀ s, s.tickPend = true → exec .sIdle s = .next { s with tickPend := false, spos := .slot0 }

/-- `S_IDLE` with nothing pending holds and changes nothing (R95, the spec's decision D4; a hold is a next state, log 5). -/
def Obligations.IdleHoldsWithoutTick : Prop :=
  ∀ s, s.tickPend = false → exec .sIdle s = .next s

/-- `S_SLOT0` with slot 0 due performs the decoder operation that `DSTATE` selects, leaves `ELAPSED` at 1 and moves on
to slot 1 (R96, R97). -/
def Obligations.DueSlotZeroPerformsSelectedDecoderOperation : Prop :=
  ∀ s i, s.task0.elapsed = 1 → decode (.dstate s.dstate) = .ok i →
    ∃ t, exec i s = .next t ∧
      exec .sSlot0 s = .next { t with task0 := ⟨t.task0.state, 1⟩, spos := .slot1 }

/-- `S_SLOT0` with the reserved `DSTATE` 7 sets `FSTAT` bit 1, leaves the decoder as it is, and the round goes on (R86,
R97, the spec's decision D18). -/
def Obligations.ReservedDecoderStateRaisesBadst : Prop :=
  ∀ s, s.task0.elapsed = 1 → s.dstate = 7 →
    ∃ t, exec .sSlot0 s = .next t ∧ t = { s with fstat := t.fstat, spos := .slot1 } ∧
      t.fstat.getLsbD 1 = true ∧ ∀ i, i ≠ 1 → t.fstat.getLsbD i = s.fstat.getLsbD i

/-- `S_SLOT0` with slot 0 not due only counts `ELAPSED` on and moves on to slot 1 (R96, R97, R100). -/
def Obligations.SlotZeroNotDueOnlyCounts : Prop :=
  ∀ s, s.task0.elapsed ≠ 1 → exec .sSlot0 s =
    .next { s with task0 := ⟨s.task0.state, s.task0.elapsed + 1⟩, spos := .slot1 }

/-- `S_SLOT1` (R98): due and answered, the answer is stored unchecked with `ELAPSED` at 1 and the position moves to slot 2;
due and not answered, the block holds with nothing written; not due, `ELAPSED` counts on. Nothing else is written (that an
answer taken leaves the port is the model's own, log 6; a hold is a next state, log 5). -/
def Obligations.SlotOneStoresTheAnswerOrHoldsOrCounts : Prop :=
  (∀ s a, s.task1.elapsed = 1 → s.inp.ans = some a → exec .sSlot1 s =
    .next { s with task1 := ⟨a, 1⟩, spos := .slot2, inp := { s.inp with ans := none } }) ∧
  (∀ s, s.task1.elapsed = 1 → s.inp.ans = none → exec .sSlot1 s = .next s) ∧
  (∀ s, s.task1.elapsed ≠ 1 → exec .sSlot1 s =
    .next { s with task1 := ⟨s.task1.state, s.task1.elapsed + 1⟩, spos := .slot2 })

/-- `S_SLOT2` (R99): as R98 for slot 2, and the round ends; a tick that arrived during it starts the next round at the next
`S_IDLE` (the answer's leaving the port is the model's own, log 6; a hold is a next state, log 5). -/
def Obligations.SlotTwoStoresTheAnswerOrHoldsOrCounts : Prop :=
  (∀ s a, s.task2.elapsed = 1 → s.inp.ans = some a → exec .sSlot2 s =
    .next { s with task2 := ⟨a, 1⟩, spos := .idle, inp := { s.inp with ans := none } }) ∧
  (∀ s, s.task2.elapsed = 1 → s.inp.ans = none → exec .sSlot2 s = .next s) ∧
  (∀ s, s.task2.elapsed ≠ 1 → exec .sSlot2 s =
    .next { s with task2 := ⟨s.task2.state, s.task2.elapsed + 1⟩, spos := .idle }) ∧
  (∀ s t, s.tickPend = true → exec .sSlot2 s = .next t → t.spos = .idle →
    exec .sIdle t = .next { t with tickPend := false, spos := .slot0 })

/-- `DISPATCH(k)` (R96), for every slot and configuration: due by equality, the step's result is stored and `ELAPSED` left
at 0 + 1, only after the step has returned; not due, `ELAPSED` counts on, modulo 256. Slot 0's step is the decoder step;
the step of slots 1 and 2 returns the external task's answer. -/
def Obligations.DispatchFollowsItsProcedure : Prop :=
  ∀ (c : Config) (k : Slot) (s : State),
    ((s.task k).elapsed = c.period k → ∀ t a, stepOf c k s = some (t, a) →
      dispatch c k (stepOf c k) s = some (t.setTask k ⟨a, 1⟩)) ∧
    ((s.task k).elapsed = c.period k → stepOf c k s = none → dispatch c k (stepOf c k) s = none) ∧
    ((s.task k).elapsed ≠ c.period k →
      dispatch c k (stepOf c k) s = some (s.setTask k ⟨(s.task k).state, (s.task k).elapsed + 1⟩)) ∧
    stepOf c .slot0 s = some (decoderStep c s) ∧
    (k ≠ .slot0 → (stepOf c k s).map Prod.snd = s.inp.ans)

/-! ## Decoder operations -/

/-- `D_START`: to `INIT`, with the counters and the accumulator cleared and the latch line high (R75 to R77, R79, R80; the
output drive is the spec's decision D7, the counter D5). -/
def Obligations.StartGoesToInit : Prop :=
  ∀ s, exec .dStart s = .next { s with
    task0 := ⟨1, s.task0.elapsed⟩, wcnt := 0, bcnt := 0, acc := 0, latch := true, clk := false }

/-- `D_INIT`: to `WAIT_A` with `WCNT` 1 and the latch line high (R75 to R77, R80, R81; decisions D5, D7). -/
def Obligations.InitGoesToWaitA : Prop :=
  ∀ s, exec .dInit s = .next { s with task0 := ⟨2, s.task0.elapsed⟩, wcnt := 1, latch := true, clk := false }

/-- `D_WAIT_A` stays while `WCNT < 2`, counting, with the latch line high (R81; decisions D5, D7). -/
def Obligations.WaitAStays : Prop :=
  ∀ s, s.wcnt.toNat < 2 → exec .dWaitA s = .next { s with
    task0 := ⟨2, s.task0.elapsed⟩, wcnt := s.wcnt + 1, latch := true, clk := false }

/-- `D_WAIT_A` leaves for `READ_FIRST` when `WCNT >= 2`: `WCNT` 0, both lines low (R81; decisions D5, D7). -/
def Obligations.WaitALeaves : Prop :=
  ∀ s, 2 ≤ s.wcnt.toNat → exec .dWaitA s = .next { s with
    task0 := ⟨3, s.task0.elapsed⟩, wcnt := 0, latch := false, clk := false }

/-- `D_READ_FIRST`: to `WAIT_B` with the clock line high; it samples nothing (R82, the spec's decision D6). -/
def Obligations.ReadFirstStartsTheClock : Prop :=
  ∀ s, exec .dReadFirst s = .next { s with task0 := ⟨4, s.task0.elapsed⟩, wcnt := 1, latch := false, clk := true }

/-- `D_WAIT_B` stays while `WCNT < 2`, counting, with the clock line high; nothing is sampled (R83; D5, D7). -/
def Obligations.WaitBStays : Prop :=
  ∀ s, s.wcnt.toNat < 2 → exec .dWaitB s = .next { s with
    task0 := ⟨4, s.task0.elapsed⟩, wcnt := s.wcnt + 1, latch := false, clk := true }

/-- `D_WAIT_B` leaves for `WAIT_C` when `WCNT >= 2`, and samples: the data line's level enters `ACC` at bit 0, the low
seven bits move up, `BCNT` counts at 4 bits (R78, R83; decisions D5, D7 to D9). -/
def Obligations.WaitBSamples : Prop :=
  ∀ s, 2 ≤ s.wcnt.toNat → exec .dWaitB s = .next { s with
    task0 := ⟨5, s.task0.elapsed⟩, wcnt := 1, latch := false, clk := false, bcnt := s.bcnt + 1
    acc := s.acc.extractLsb' 0 7 ++ BitVec.ofBool s.inp.data }

/-- `D_WAIT_C` stays while `WCNT < 4`, counting, with both lines low (R84; decisions D5, D7). -/
def Obligations.WaitCStays : Prop :=
  ∀ s, s.wcnt.toNat < 4 → exec .dWaitC s = .next { s with
    task0 := ⟨5, s.task0.elapsed⟩, wcnt := s.wcnt + 1, latch := false, clk := false }

/-- `D_WAIT_C` goes to the next clock pulse when `WCNT >= 4` and fewer or more than 8 bits are done (R84; D5, D7). -/
def Obligations.WaitCClocksTheNextBit : Prop :=
  ∀ s, 4 ≤ s.wcnt.toNat → s.bcnt ≠ 8 → exec .dWaitC s = .next { s with
    task0 := ⟨4, s.task0.elapsed⟩, wcnt := 1, latch := false, clk := true }

/-- `D_WAIT_C` goes to `FINAL` when `WCNT >= 4` and `BCNT` is 8, and the action pass of `FINAL` publishes: the code of the
button whose mask is the inverted `ACC`, and 0 when no mask is (R67, R84, R85; decisions D5, D7; `MASK` is open, D10). -/
def Obligations.WaitCPublishesInFinal : Prop :=
  ∀ s, 4 ≤ s.wcnt.toNat → s.bcnt = 8 → ∃ t, exec .dWaitC s = .next t ∧
    t = { s with task0 := ⟨6, s.task0.elapsed⟩, wcnt := 0, latch := false, clk := false, icode := t.icode } ∧
    (∀ k : Button, Config.mgsds.mask k = ~~~ s.acc → t.icode = k.code) ∧
    ((∀ k : Button, Config.mgsds.mask k ≠ ~~~ s.acc) → t.icode = 0)

/-- `D_FINAL`: to `INIT`, with the counters and the accumulator cleared and the latch line high; `ICODE` is not written
(R75 to R77, R80, R85; decisions D5, D7). -/
def Obligations.FinalGoesToInit : Prop :=
  ∀ s, exec .dFinal s = .next { s with
    task0 := ⟨1, s.task0.elapsed⟩, wcnt := 0, bcnt := 0, acc := 0, latch := true, clk := false }

/-- `FINAL` always goes to `INIT` on the next decoder step, so read cycles follow each other with no idle tick (R89). -/
def Obligations.FinalIsFollowedByInitAtOnce : Prop :=
  ∀ s, s.dstate = 6 → s.task0.elapsed = 1 →
    ∃ t, exec .sSlot0 s = .next t ∧ t.dstate = 1 ∧ t.task0.elapsed = 1

/-! ## Decoding a byte -/

/-- `DECODE` under every legal configuration: the code of the button whose mask equals the byte, 0 when none does, and a
nonzero code for exactly the eight single-bit bytes (R67, derived in the spec from R64). -/
def Obligations.DecodeMatchesExactlyTheSingleBitBytes : Prop :=
  ∀ c : Config, c.Legal → ∀ inv : Byte,
    (∀ k : Button, c.mask k = inv → decodeInv c.mask inv = k.code) ∧
    ((∀ k : Button, c.mask k ≠ inv) → decodeInv c.mask inv = 0) ∧
    (decodeInv c.mask inv ≠ 0 ↔ inv ∈ singleBitBytes)

/-- Every mask table that R8 admits is the default profile after a permutation of the buttons, so leaving that
permutation open leaves out no mask table (R64, the spec's decision D10; log 3). -/
def Obligations.EveryLegalMaskIsAPermutedProfile : Prop :=
  ∀ c : Config, c.Legal → ∃ p : Equiv.Perm Button, ∀ k, c.mask k = defaultMask (p k)

/-- This hardware's configuration is legal, and `exec` is the operation under it (R7, R8; its `MASK` is open, log 3). -/
def Obligations.ThisHardwareIsALegalConfiguration : Prop :=
  Config.mgsds.Legal ∧ ∀ i s, execIn Config.mgsds i s = exec i s

/-- A configuration outside R8's ranges is refused, whatever the operation (R8, the spec's decision D16). -/
def Obligations.IllegalConfigurationIsRefused : Prop :=
  ∀ (c : Config) i s, ¬ c.Legal → execIn c i s = .refused .illegalConfig

/-! ## Rules of the whole machine -/

/-- Every step answers a next state: no data level, code or answer stops the block (R109; holds included, log 5). -/
def Obligations.EveryStepAnswersANextState : Prop := ∀ s, ∃ t, step s = .next t

/-- The reachable-state invariant holds after reset (R43, derived in the spec). -/
def Obligations.ResetMeetsTheReachableStateConditions : Prop := State.reset.Inv

/-- Every step keeps the reachable-state invariant, whatever the environment draws (R43, derived in the spec). -/
def Obligations.StepKeepsTheReachableStateConditions : Prop :=
  ∀ s t, s.Inv → step s = .next t → t.Inv

/-- A fault bit once set stays set until a reset (R111, the spec's decision D18). -/
def Obligations.FaultBitsStayUntilReset : Prop :=
  ∀ s t, step s = .next t → s.inp.ev.getLsbD 1 = false →
    ∀ i, s.fstat.getLsbD i = true → t.fstat.getLsbD i = true

/-- `FSTAT` changes only by `EV_RST`, by `EV_TICK` on a pending tick (bit 0), or by `S_SLOT0` dispatching the reserved
decoder state (bit 1): one operation raises at most one fault (R110, R113.4, the spec's decisions D17, D18). -/
def Obligations.OnlyListedOperationsTouchFaultStatus : Prop :=
  ∀ i s t, exec i s = .next t → t.fstat ≠ s.fstat →
    (∃ tick, i = .evRst tick) ∨
    (i = .evTick ∧ s.tickPend = true ∧ t.fstat = s.fstat ||| 0x01) ∨
    (i = .sSlot0 ∧ s.task0.elapsed = 1 ∧ s.dstate = 7 ∧ t.fstat = s.fstat ||| 0x02)

/-- `ICODE` changes in a step only by reset, or on the decoder step that goes from `WAIT_C` to `FINAL`, and then to the
code of the inverted `ACC` (R88, derived in the spec). -/
def Obligations.IcodeChangesOnlyOnEnteringFinal : Prop :=
  ∀ s t, step s = .next t → t.icode ≠ s.icode →
    s.inp.ev.getLsbD 1 = true ∨
    (fetch s = .sSlot0 ∧ s.dstate = 5 ∧ t.dstate = 6 ∧ t.icode = decodeInv Config.mgsds.mask (~~~ t.acc))

/-- Only `EV_RST`, `S_SLOT0` and the decoder operations it performs write a decoder register or an output line; only
`EV_RST` and `S_SLOTk` write the record of an external task k (R40). -/
def Obligations.RegistersChangeOnlyByTheirWriters : Prop :=
  ∀ i s t, exec i s = .next t →
    (i = .evTick ∨ i = .sIdle ∨ i = .sSlot1 ∨ i = .sSlot2 →
      t.task0 = s.task0 ∧ t.wcnt = s.wcnt ∧ t.bcnt = s.bcnt ∧ t.acc = s.acc ∧ t.icode = s.icode ∧
      t.latch = s.latch ∧ t.clk = s.clk) ∧
    (t.task1 ≠ s.task1 → i = .sSlot1 ∨ ∃ tick, i = .evRst tick) ∧
    (t.task2 ≠ s.task2 → i = .sSlot2 ∨ ∃ tick, i = .evRst tick)

/-- The output lines are a function of the state a decoder step ends in: `LATCH` high in `INIT` and `WAIT_A`, `CLK` high in
`WAIT_B` (R77, the spec's decision D7). -/
def Obligations.OutputLinesFollowTheDecoderState : Prop :=
  ∀ s t, s.task0.elapsed = 1 → s.dstate ≠ 7 → exec .sSlot0 s = .next t →
    (t.latch = true ↔ t.dstate = 1 ∨ t.dstate = 2) ∧ (t.clk = true ↔ t.dstate = 4)

/-- Between events the block visits the slots in the order 0, 1, 2 and returns to `IDLE` (R95, R97 to R100): a step that
moves the position moves it to the next one. A slot the block moves past has been dispatched: if it was due, its record
is the state its step returned (the decoder step's, or the external task's answer) with `ELAPSED` started at 1; if not,
its `ELAPSED` has counted on. No other slot's record is written. Only `IDLE` without a tick and a due slot whose task has
not answered (R102) stay where they are (a hold is a next state, log 5); a tick arriving in between changes neither the
position nor a record (R94). -/
def Obligations.SlotsAreVisitedInRegistrationOrder : Prop :=
  (∀ s t, s.inp.ev = 0b01 → step s = .next t →
    t.spos = s.spos ∧ t.task0 = s.task0 ∧ t.task1 = s.task1 ∧ t.task2 = s.task2) ∧
  ∀ s t, s.inp.ev = 0b00 → step s = .next t →
    match s.spos with
    | .idle => t.task0 = s.task0 ∧ t.task1 = s.task1 ∧ t.task2 = s.task2 ∧
        t.spos = (if s.tickPend then .slot0 else .idle)
    | .slot0 => t.spos = .slot1 ∧ t.task1 = s.task1 ∧ t.task2 = s.task2 ∧
        t.task0 = (if s.task0.elapsed = 1 then ⟨(decoderStep Config.mgsds s).2, 1⟩
          else ⟨s.task0.state, s.task0.elapsed + 1⟩)
    | .slot1 => t.task0 = s.task0 ∧ t.task2 = s.task2 ∧
        if s.task1.elapsed = 1 then
          match s.inp.ans with
          | some a => t.spos = .slot2 ∧ t.task1 = ⟨a, 1⟩
          | none => t.spos = .slot1 ∧ t.task1 = s.task1
        else t.spos = .slot2 ∧ t.task1 = ⟨s.task1.state, s.task1.elapsed + 1⟩
    | .slot2 => t.task0 = s.task0 ∧ t.task1 = s.task1 ∧
        if s.task2.elapsed = 1 then
          match s.inp.ans with
          | some a => t.spos = .idle ∧ t.task2 = ⟨a, 1⟩
          | none => t.spos = .slot2 ∧ t.task2 = s.task2
        else t.spos = .idle ∧ t.task2 = ⟨s.task2.state, s.task2.elapsed + 1⟩

/-- A due slot whose task has not answered is left only by the answer or by a reset; meanwhile only `TICK_PEND` and
`FSTAT.OVR` can change (R102, R137, the spec's decision D19). -/
def Obligations.HeldSlotWaitsForAnswerOrReset : Prop :=
  ∀ s t, (s.spos = .slot1 ∧ s.task1.elapsed = 1 ∨ s.spos = .slot2 ∧ s.task2.elapsed = 1) → s.inp.ans = none →
    s.inp.ev.getLsbD 1 = false → step s = .next t →
    t = { s with tickPend := t.tickPend, fstat := t.fstat, inp := t.inp, draws := t.draws } ∧
    (t.fstat = s.fstat ∨ t.fstat = s.fstat ||| 0x01)

/-- In a reachable state that is not faulted, only a tick on a pending tick can fault the block: `BADST` is out of reach
(R110, R43, derived in the spec). -/
def Obligations.OnlyAnOverrunFaultsAReachableState : Prop :=
  ∀ s t : State, s.Inv → ¬ s.Faulted → step s = .next t → t.Faulted → s.inp.ev = 0b01 ∧ s.tickPend = true

/-- The host read port shows the four registers (R124, the spec's decisions D19, D21); that a line is bit 0 of a byte is the
model's choice (log 15). -/
def Obligations.HostReadPortShowsTheRegisters : Prop :=
  ∀ s : State, hostRead s .icode = s.icode ∧ hostRead s .fstat = s.fstat ∧
    (hostRead s .latch = 1 ↔ s.latch = true) ∧ (hostRead s .latch = 0 ↔ s.latch = false) ∧
    (hostRead s .clk = 1 ↔ s.clk = true) ∧ (hostRead s .clk = 0 ↔ s.clk = false)

/-! ## Order between slots -/

/-- The tasks of slots 1 and 2 are asked after the decoder's step of the same round, with the `ICODE` it left (R53, R108).
A request is presented exactly when the block is at slot 1 or 2 and that slot is due, with the slot's `STATE` and the
present `ICODE` (R102, the spec's decision D19). After `S_SLOT0` the block is at slot 1, so a due slot 1 is asked there;
`S_SLOT1`, whatever the inputs, leaves `ICODE` as slot 0 left it, so that once the block is at slot 2, a due slot 2 is
asked with that same `ICODE`. -/
def Obligations.LaterSlotsSeeTheSameTickIcode : Prop :=
  (∀ s r, extRequest Config.mgsds s = some r ↔
    s.spos = .slot1 ∧ s.task1.elapsed = 1 ∧ r = ⟨.slot1, s.task1.state, s.icode⟩ ∨
    s.spos = .slot2 ∧ s.task2.elapsed = 1 ∧ r = ⟨.slot2, s.task2.state, s.icode⟩) ∧
  ∀ s t, exec .sSlot0 s = .next t →
    (t.task1.elapsed = 1 → extRequest Config.mgsds t = some ⟨.slot1, t.task1.state, t.icode⟩) ∧
    (t.task1.elapsed ≠ 1 → extRequest Config.mgsds t = none) ∧
    ∀ x u, exec .sSlot1 { t with inp := x } = .next u →
      u.icode = t.icode ∧
      (u.spos = .slot2 → u.task2.elapsed = 1 →
        extRequest Config.mgsds u = some ⟨.slot2, u.task2.state, t.icode⟩) ∧
      ∀ r, extRequest Config.mgsds u = some r → r.icode = t.icode

/-- Slot 0 reads nothing another slot writes: whatever the records of slots 1 and 2 hold, its dispatch does the same to
every other register and leaves those records alone (R54). -/
def Obligations.DecoderIsIndependentOfExternalTasks : Prop :=
  ∀ s t r1 r2, exec .sSlot0 s = .next t →
    exec .sSlot0 { s with task1 := r1, task2 := r2 } = .next { t with task1 := r1, task2 := r2 }

/-- From `IDLE` with a pending tick, four block steps with no event between them and both requests answered have the
effect of one `ROUND()` and return to `IDLE` with nothing pending (R105, derived in the spec); the inputs, which are the
model's own, are left out of the comparison (log 1). -/
def Obligations.FourBlockStepsMakeOneRound : Prop :=
  ∀ (e : RoundEnv) (s s1 s2 s3 s4 : State), s.spos = .idle → s.tickPend = true →
    s.task1.elapsed = 1 → s.task2.elapsed = 1 →
    exec (fetch (s.feed e.data none)) (s.feed e.data none) = .next s1 →
    exec (fetch (s1.feed e.data none)) (s1.feed e.data none) = .next s2 →
    exec (fetch (s2.feed e.data (some e.ans1))) (s2.feed e.data (some e.ans1)) = .next s3 →
    exec (fetch (s3.feed e.data (some e.ans2))) (s3.feed e.data (some e.ans2)) = .next s4 →
    s4.spos = .idle ∧ s4.tickPend = false ∧
    ({ s4 with inp := s.inp } : State) =
      { roundOnce Config.mgsds e { s with tickPend := false } with inp := s.inp }

/-! ## Laws over many rounds -/

/-- Period law for every legal configuration: from `ELAPSED = PERIOD`, slot k is due exactly at the starts of the rounds
1, 1 + P, 1 + 2P, ..., and `ELAPSED` runs P, 1, 2, ..., P - 1 (R103, derived in the spec). -/
def Obligations.SlotStepsOncePerPeriod : Prop :=
  ∀ (c : Config) (env : Nat → RoundEnv) (s : State) (k : Slot) (n : Nat), c.Legal →
    (s.task k).elapsed = c.period k →
    ((rounds c env n s).task k).elapsed.toNat =
      (if n % (c.period k).toNat = 0 then (c.period k).toNat else n % (c.period k).toNat) ∧
    ((rounds c env n s).due c k = true ↔ (c.period k).toNat ∣ n)

/-- A run of N rounds of this hardware from `ELAPSED = 1` steps each of the three slots exactly N times (R107, derived in
the spec). -/
def Obligations.EachSlotStepsOncePerTick : Prop :=
  ∀ (env : Nat → RoundEnv) (s : State) (N : Nat), (∀ k, (s.task k).elapsed = 1) →
    ∀ k, ((List.range N).filter (fun n => (rounds Config.mgsds env n s).due Config.mgsds k)).length = N

/-- A counter above its period is not stepped until it has wrapped through 0 and counted up to the period again, after
`256 - ELAPSED + PERIOD` rounds (R104, derived in the spec; unreachable from reset). -/
def Obligations.CounterAbovePeriodWrapsBeforeStepping : Prop :=
  ∀ (c : Config) (env : Nat → RoundEnv) (s : State) (k : Slot) (n : Nat), c.Legal →
    (c.period k).toNat < (s.task k).elapsed.toNat →
    n ≤ 256 - (s.task k).elapsed.toNat + (c.period k).toNat →
    ((rounds c env n s).due c k = true ↔ n = 256 - (s.task k).elapsed.toNat + (c.period k).toNat)

/-- Each wait state lasts exactly its dwell under every legal configuration: entered with `WCNT` 1, it is still there
after fewer than `T_x` further decoder steps, `WCNT` counting them, and not after `T_x` (R76, the spec's decision D5). -/
def Obligations.WaitStatesLastExactlyTheirDwell : Prop :=
  ∀ (c : Config) (data : Nat → Bool) (s : State) (x : DState) (T : Byte), c.Legal →
    (x = .waitA ∧ T = c.tLatch ∨ x = .waitB ∧ T = c.tSettle ∨ x = .waitC ∧ T = c.tPost) →
    s.dstate = x.code → s.wcnt = 1 →
    (∀ j, j < T.toNat → (decoderTicks c data j s).dstate = x.code ∧
      (decoderTicks c data j s).wcnt.toNat = 1 + j) ∧
    (decoderTicks c data T.toNat s).dstate ≠ x.code

/-- No data-line value and no sequence of them makes the decoder fault, stall or leave the read cycle of R87: from the
`INIT` tick of a cycle, the state at every later offset is the scheduled one, for ever, and `FSTAT` is untouched; the
only decoder fault is that of the reserved state (R92). -/
def Obligations.NoDataSequenceDisturbsTheReadCycle : Prop :=
  (∀ (data : Nat → Bool) (s : State) (o : Nat), s.dstate = DState.init.code → s.wcnt = 0 → s.bcnt = 0 →
    (decoderTicks Config.mgsds data o s).dstate = (scheduleAt Config.mgsds (o % 53)).code ∧
    (decoderTicks Config.mgsds data o s).fstat = s.fstat) ∧
  ∀ s : State, (decoderStep Config.mgsds s).1.fstat ≠ s.fstat → s.dstate = 7

/-- Rounds follow the schedule of R87 (derived in the spec), whatever the environment gives: from a `START` state with
slot 0 due, tick `I_n` of cycle n ends in `INIT`, the tick before each `S_i` in `WAIT_B`, `S_i` in `WAIT_C` and `F_n` in
`FINAL`, and cycle n + 1 begins on the tick after `F_n`. -/
def Obligations.RoundsFollowTheReadCycleSchedule : Prop :=
  ∀ (env : Nat → RoundEnv) (s : State) (n : Nat), s.dstate = 0 → s.task0.elapsed = 1 → 1 ≤ n →
    (rounds Config.mgsds env (initTick Config.mgsds n) s).dstate = DState.init.code ∧
    (∀ i, 1 ≤ i → i ≤ 8 →
      (rounds Config.mgsds env (sampleTick Config.mgsds n i - 1) s).dstate = DState.waitB.code ∧
      (rounds Config.mgsds env (sampleTick Config.mgsds n i) s).dstate = DState.waitC.code) ∧
    (rounds Config.mgsds env (finalTick Config.mgsds n) s).dstate = DState.final.code ∧
    initTick Config.mgsds (n + 1) = finalTick Config.mgsds n + 1

/-- Within one read cycle the i-th sampled level ends in `ACC[8-i]`, the first in `ACC[7]` and the eighth in `ACC[0]`
(R48); the i-th sample is the decoder step 6i after the `INIT` tick (R87, derived in the spec). -/
def Obligations.SamplesLandMostSignificantBitFirst : Prop :=
  ∀ (data : Nat → Bool) (s : State), s.dstate = DState.init.code → s.wcnt = 0 → s.bcnt = 0 →
    ∀ i, 1 ≤ i → i ≤ 8 →
      (decoderTicks Config.mgsds data 52 s).acc.getLsbD (8 - i) = data (6 * i)

/-- The `FINAL` tick of a read cycle, 52 decoder steps after its `INIT` tick, publishes the code of the inverted sample,
and before it `ICODE` keeps its value (R88, R138, derived in the spec). -/
def Obligations.ReadCyclePublishesOnItsFinalTick : Prop :=
  ∀ (data : Nat → Bool) (s : State), s.dstate = DState.init.code → s.wcnt = 0 → s.bcnt = 0 →
    (∀ o, o < 52 → (decoderTicks Config.mgsds data o s).icode = s.icode) ∧
    (decoderTicks Config.mgsds data 52 s).dstate = DState.final.code ∧
    (decoderTicks Config.mgsds data 52 s).icode =
      decodeInv Config.mgsds.mask (~~~ (decoderTicks Config.mgsds data 52 s).acc)

/-- A button pressed alone is decoded: when, at the eight sample steps of a cycle, the level is low exactly at the sample
that lands in the bit of the button's mask, the cycle publishes the button's code, whatever mask table this hardware has
(R120, R135, derived in the spec; `MASK` is open, log 3). -/
def Obligations.SinglePressedButtonIsDecoded : Prop :=
  ∀ (data : Nat → Bool) (s : State) (k : Button), s.dstate = DState.init.code → s.wcnt = 0 → s.bcnt = 0 →
    (∀ i, 1 ≤ i → i ≤ 8 → data (6 * i) = !(Config.mgsds.mask k).getLsbD (8 - i)) →
    (decoderTicks Config.mgsds data 52 s).icode = k.code

/-! ## The stimulus notation -/

/-- The stimulus words are read and written consistently: every well-formed statement is read back from its word, and a
word that is read is the word of a well-formed statement (R73, the spec's decision D23). -/
def Obligations.StimulusWordsRoundTrip : Prop :=
  (∀ st : Stim, st.wf = true → decodeStim (encodeStim st) = .ok st) ∧
  ∀ w st, decodeStim w = .ok st → st.wf = true ∧ encodeStim st = w

/-- One tick of a `TICKS` statement is one accepted tick and its complete round, with the stubs' answers: slot 1 and 2
keep their state under `ID`, and take `ICODE[2:0]` as slot 0 left it under `ECHO` (R72, the spec's decision D23). -/
def Obligations.StimulusTickIsOneRound : Prop :=
  ∀ (d : Bool) (x : Bench), x.dut.spos = .idle → x.dut.tickPend = false →
    x.dut.task1.elapsed = 1 → x.dut.task2.elapsed = 1 →
    let t := (Bench.tick Config.mgsds d x).dut
    t.spos = .idle ∧ t.tickPend = false ∧
    t.task1.state = (if x.stub1 = .keep then x.dut.task1.state else t.icode.extractLsb' 0 3) ∧
    t.task2.state = (if x.stub2 = .keep then x.dut.task2.state else t.icode.extractLsb' 0 3) ∧
    ({ t with inp := x.dut.inp } : State) =
      { roundOnce Config.mgsds ⟨d, t.task1.state, t.task2.state⟩ x.dut with inp := x.dut.inp }
end

