-- ==== Sys2Proof/Laws/Config.lean ====
section
/-! SUPPORT. The mask table and the configuration lists. -/

namespace Sys2Proof

theorem Button.mem_all (k : Button) : k ∈ Button.all := by cases k <;> decide

theorem Slot.mem_all (k : Slot) : k ∈ Slot.all := by cases k <;> decide

/-- The default profile names eight different bytes (30_encoding R64). -/
theorem defaultMask_injective {k l : Button} (h : defaultMask k = defaultMask l) : k = l := by
  revert h; cases k <;> cases l <;> decide

/-- The default profile's bytes are the single-bit bytes (30_encoding R64). -/
theorem defaultMask_mem (k : Button) : defaultMask k ∈ singleBitBytes := by cases k <;> decide

theorem exists_defaultMask {v : Byte} (h : v ∈ singleBitBytes) : ∃ k, defaultMask k = v := by
  revert h; revert v
  simp only [singleBitBytes, List.forall_mem_cons]
  exact ⟨⟨.right, rfl⟩, ⟨.left, rfl⟩, ⟨.down, rfl⟩, ⟨.up, rfl⟩, ⟨.start, rfl⟩, ⟨.select, rfl⟩, ⟨.y, rfl⟩, ⟨.b, rfl⟩, by simp⟩

/-- An input code is one of 1 to 8 (30_encoding R63). -/
theorem Button.code_toNat_bounds (k : Button) : 1 ≤ k.code.toNat ∧ k.code.toNat ≤ 8 := by cases k <;> decide

namespace Machine

/-- `DECODE` of a button's own mask, under masks that are all different (30_encoding R67). -/
theorem decodeInv_mask {mask : Button → Byte} (inj : ∀ k l, mask k = mask l → k = l) (k : Button) :
    decodeInv mask (mask k) = k.code := by
  unfold decodeInv
  cases h : Button.all.find? (fun l => mask l == mask k) with
  | none => exact absurd (List.find?_eq_none.1 h k k.mem_all) (by simp)
  | some l =>
    have hl : mask l = mask k := by simpa using List.find?_some h
    rw [inj _ _ hl]

/-- `DECODE` of a byte that is no button's mask is 0 (30_encoding R67). -/
theorem decodeInv_none {mask : Button → Byte} {inv : Byte} (h : ∀ k, mask k ≠ inv) : decodeInv mask inv = 0 := by
  unfold decodeInv
  cases hf : Button.all.find? (fun l => mask l == inv) with
  | none => rfl
  | some l => exact absurd (by simpa using List.find?_some hf) (h l)

/-- `DECODE` answers 0 or a button's code, so at most 8 (10_state R32, R43). -/
theorem decodeInv_le (mask : Button → Byte) (inv : Byte) : (decodeInv mask inv).toNat ≤ 8 := by
  unfold decodeInv
  split
  · exact (Button.code_toNat_bounds _).2
  · decide

end Machine

end Sys2Proof
end

