-- ==== Sys2Proof/Laws/State.lean ====
section
/-! SUPPORT. The small lemmas of the state's updates: one per field per update, so that no proof unfolds a record
update. -/

namespace Sys2Proof.Machine

/-! ### `State.raise` -/

@[simp] theorem raise_task0 (s : State) (f : FaultCode) : (s.raise f).task0 = s.task0 := rfl

@[simp] theorem raise_task1 (s : State) (f : FaultCode) : (s.raise f).task1 = s.task1 := rfl

@[simp] theorem raise_task2 (s : State) (f : FaultCode) : (s.raise f).task2 = s.task2 := rfl

@[simp] theorem raise_wcnt (s : State) (f : FaultCode) : (s.raise f).wcnt = s.wcnt := rfl

@[simp] theorem raise_bcnt (s : State) (f : FaultCode) : (s.raise f).bcnt = s.bcnt := rfl

@[simp] theorem raise_acc (s : State) (f : FaultCode) : (s.raise f).acc = s.acc := rfl

@[simp] theorem raise_icode (s : State) (f : FaultCode) : (s.raise f).icode = s.icode := rfl

@[simp] theorem raise_latch (s : State) (f : FaultCode) : (s.raise f).latch = s.latch := rfl

@[simp] theorem raise_clk (s : State) (f : FaultCode) : (s.raise f).clk = s.clk := rfl

@[simp] theorem raise_spos (s : State) (f : FaultCode) : (s.raise f).spos = s.spos := rfl

@[simp] theorem raise_tickPend (s : State) (f : FaultCode) : (s.raise f).tickPend = s.tickPend := rfl

@[simp] theorem raise_fstat (s : State) (f : FaultCode) : (s.raise f).fstat = s.fstat ||| faultBit f := rfl

@[simp] theorem raise_inp (s : State) (f : FaultCode) : (s.raise f).inp = s.inp := rfl

@[simp] theorem raise_draws (s : State) (f : FaultCode) : (s.raise f).draws = s.draws := rfl

/-! ### `State.redraw` -/

@[simp] theorem redraw_task0 (s : State) : (s.redraw).task0 = s.task0 := rfl

@[simp] theorem redraw_task1 (s : State) : (s.redraw).task1 = s.task1 := rfl

@[simp] theorem redraw_task2 (s : State) : (s.redraw).task2 = s.task2 := rfl

@[simp] theorem redraw_wcnt (s : State) : (s.redraw).wcnt = s.wcnt := rfl

@[simp] theorem redraw_bcnt (s : State) : (s.redraw).bcnt = s.bcnt := rfl

@[simp] theorem redraw_acc (s : State) : (s.redraw).acc = s.acc := rfl

@[simp] theorem redraw_icode (s : State) : (s.redraw).icode = s.icode := rfl

@[simp] theorem redraw_latch (s : State) : (s.redraw).latch = s.latch := rfl

@[simp] theorem redraw_clk (s : State) : (s.redraw).clk = s.clk := rfl

@[simp] theorem redraw_spos (s : State) : (s.redraw).spos = s.spos := rfl

@[simp] theorem redraw_tickPend (s : State) : (s.redraw).tickPend = s.tickPend := rfl

@[simp] theorem redraw_fstat (s : State) : (s.redraw).fstat = s.fstat := rfl

@[simp] theorem redraw_inp (s : State) : (s.redraw).inp = ⟨Config.drawEvent s.draws, Config.drawData s.draws, nextAnswer s⟩ := rfl

@[simp] theorem redraw_draws (s : State) : (s.redraw).draws = s.draws + 1 := rfl

/-! ### `State.feed` -/

@[simp] theorem feed_task0 (s : State) (d : Bool) (a : Option StateCode) : (s.feed d a).task0 = s.task0 := rfl

@[simp] theorem feed_task1 (s : State) (d : Bool) (a : Option StateCode) : (s.feed d a).task1 = s.task1 := rfl

@[simp] theorem feed_task2 (s : State) (d : Bool) (a : Option StateCode) : (s.feed d a).task2 = s.task2 := rfl

@[simp] theorem feed_wcnt (s : State) (d : Bool) (a : Option StateCode) : (s.feed d a).wcnt = s.wcnt := rfl

@[simp] theorem feed_bcnt (s : State) (d : Bool) (a : Option StateCode) : (s.feed d a).bcnt = s.bcnt := rfl

@[simp] theorem feed_acc (s : State) (d : Bool) (a : Option StateCode) : (s.feed d a).acc = s.acc := rfl

@[simp] theorem feed_icode (s : State) (d : Bool) (a : Option StateCode) : (s.feed d a).icode = s.icode := rfl

@[simp] theorem feed_latch (s : State) (d : Bool) (a : Option StateCode) : (s.feed d a).latch = s.latch := rfl

@[simp] theorem feed_clk (s : State) (d : Bool) (a : Option StateCode) : (s.feed d a).clk = s.clk := rfl

@[simp] theorem feed_spos (s : State) (d : Bool) (a : Option StateCode) : (s.feed d a).spos = s.spos := rfl

@[simp] theorem feed_tickPend (s : State) (d : Bool) (a : Option StateCode) : (s.feed d a).tickPend = s.tickPend := rfl

@[simp] theorem feed_fstat (s : State) (d : Bool) (a : Option StateCode) : (s.feed d a).fstat = s.fstat := rfl

@[simp] theorem feed_inp (s : State) (d : Bool) (a : Option StateCode) : (s.feed d a).inp = ⟨0b00, d, a⟩ := rfl

@[simp] theorem feed_draws (s : State) (d : Bool) (a : Option StateCode) : (s.feed d a).draws = s.draws := rfl

/-! ### `State.withData` -/

@[simp] theorem withData_task0 (s : State) (d : Bool) : (s.withData d).task0 = s.task0 := rfl

@[simp] theorem withData_task1 (s : State) (d : Bool) : (s.withData d).task1 = s.task1 := rfl

@[simp] theorem withData_task2 (s : State) (d : Bool) : (s.withData d).task2 = s.task2 := rfl

@[simp] theorem withData_wcnt (s : State) (d : Bool) : (s.withData d).wcnt = s.wcnt := rfl

@[simp] theorem withData_bcnt (s : State) (d : Bool) : (s.withData d).bcnt = s.bcnt := rfl

@[simp] theorem withData_acc (s : State) (d : Bool) : (s.withData d).acc = s.acc := rfl

@[simp] theorem withData_icode (s : State) (d : Bool) : (s.withData d).icode = s.icode := rfl

@[simp] theorem withData_latch (s : State) (d : Bool) : (s.withData d).latch = s.latch := rfl

@[simp] theorem withData_clk (s : State) (d : Bool) : (s.withData d).clk = s.clk := rfl

@[simp] theorem withData_spos (s : State) (d : Bool) : (s.withData d).spos = s.spos := rfl

@[simp] theorem withData_tickPend (s : State) (d : Bool) : (s.withData d).tickPend = s.tickPend := rfl

@[simp] theorem withData_fstat (s : State) (d : Bool) : (s.withData d).fstat = s.fstat := rfl

@[simp] theorem withData_inp (s : State) (d : Bool) : (s.withData d).inp = ⟨s.inp.ev, d, s.inp.ans⟩ := rfl

@[simp] theorem withData_draws (s : State) (d : Bool) : (s.withData d).draws = s.draws := rfl

/-! ### `sample` -/

@[simp] theorem sample_task0 (s : State) : (sample s).task0 = s.task0 := rfl

@[simp] theorem sample_task1 (s : State) : (sample s).task1 = s.task1 := rfl

@[simp] theorem sample_task2 (s : State) : (sample s).task2 = s.task2 := rfl

@[simp] theorem sample_wcnt (s : State) : (sample s).wcnt = s.wcnt := rfl

@[simp] theorem sample_bcnt (s : State) : (sample s).bcnt = s.bcnt + 1 := rfl

@[simp] theorem sample_acc (s : State) : (sample s).acc = shiftIn s.acc s.inp.data := rfl

@[simp] theorem sample_icode (s : State) : (sample s).icode = s.icode := rfl

@[simp] theorem sample_latch (s : State) : (sample s).latch = s.latch := rfl

@[simp] theorem sample_clk (s : State) : (sample s).clk = s.clk := rfl

@[simp] theorem sample_spos (s : State) : (sample s).spos = s.spos := rfl

@[simp] theorem sample_tickPend (s : State) : (sample s).tickPend = s.tickPend := rfl

@[simp] theorem sample_fstat (s : State) : (sample s).fstat = s.fstat := rfl

@[simp] theorem sample_inp (s : State) : (sample s).inp = s.inp := rfl

@[simp] theorem sample_draws (s : State) : (sample s).draws = s.draws := rfl

/-! ### `outputDrive` -/

@[simp] theorem outputDrive_task0 (x : DState) (s : State) : (outputDrive x s).task0 = s.task0 := rfl

@[simp] theorem outputDrive_task1 (x : DState) (s : State) : (outputDrive x s).task1 = s.task1 := rfl

@[simp] theorem outputDrive_task2 (x : DState) (s : State) : (outputDrive x s).task2 = s.task2 := rfl

@[simp] theorem outputDrive_wcnt (x : DState) (s : State) : (outputDrive x s).wcnt = s.wcnt := rfl

@[simp] theorem outputDrive_bcnt (x : DState) (s : State) : (outputDrive x s).bcnt = s.bcnt := rfl

@[simp] theorem outputDrive_acc (x : DState) (s : State) : (outputDrive x s).acc = s.acc := rfl

@[simp] theorem outputDrive_icode (x : DState) (s : State) : (outputDrive x s).icode = s.icode := rfl

@[simp] theorem outputDrive_latch (x : DState) (s : State) : (outputDrive x s).latch = (x == .init || x == .waitA) := rfl

@[simp] theorem outputDrive_clk (x : DState) (s : State) : (outputDrive x s).clk = (x == .waitB) := rfl

@[simp] theorem outputDrive_spos (x : DState) (s : State) : (outputDrive x s).spos = s.spos := rfl

@[simp] theorem outputDrive_tickPend (x : DState) (s : State) : (outputDrive x s).tickPend = s.tickPend := rfl

@[simp] theorem outputDrive_fstat (x : DState) (s : State) : (outputDrive x s).fstat = s.fstat := rfl

@[simp] theorem outputDrive_inp (x : DState) (s : State) : (outputDrive x s).inp = s.inp := rfl

@[simp] theorem outputDrive_draws (x : DState) (s : State) : (outputDrive x s).draws = s.draws := rfl

/-! ### `storeDstate` -/

@[simp] theorem storeDstate_task0 (r : State × StateCode) : (storeDstate r).task0 = ⟨r.2, r.1.task0.elapsed⟩ := rfl

@[simp] theorem storeDstate_task1 (r : State × StateCode) : (storeDstate r).task1 = r.1.task1 := rfl

@[simp] theorem storeDstate_task2 (r : State × StateCode) : (storeDstate r).task2 = r.1.task2 := rfl

@[simp] theorem storeDstate_wcnt (r : State × StateCode) : (storeDstate r).wcnt = r.1.wcnt := rfl

@[simp] theorem storeDstate_bcnt (r : State × StateCode) : (storeDstate r).bcnt = r.1.bcnt := rfl

@[simp] theorem storeDstate_acc (r : State × StateCode) : (storeDstate r).acc = r.1.acc := rfl

@[simp] theorem storeDstate_icode (r : State × StateCode) : (storeDstate r).icode = r.1.icode := rfl

@[simp] theorem storeDstate_latch (r : State × StateCode) : (storeDstate r).latch = r.1.latch := rfl

@[simp] theorem storeDstate_clk (r : State × StateCode) : (storeDstate r).clk = r.1.clk := rfl

@[simp] theorem storeDstate_spos (r : State × StateCode) : (storeDstate r).spos = r.1.spos := rfl

@[simp] theorem storeDstate_tickPend (r : State × StateCode) : (storeDstate r).tickPend = r.1.tickPend := rfl

@[simp] theorem storeDstate_fstat (r : State × StateCode) : (storeDstate r).fstat = r.1.fstat := rfl

@[simp] theorem storeDstate_inp (r : State × StateCode) : (storeDstate r).inp = r.1.inp := rfl

@[simp] theorem storeDstate_draws (r : State × StateCode) : (storeDstate r).draws = r.1.draws := rfl

/-! ### `State.setTask`, `storeResult` and `bumpElapsed`: only one slot's record changes -/

@[simp] theorem setTask_wcnt (s : State) (k : Slot) (r : TaskRec) : (s.setTask k r).wcnt = s.wcnt := by
  cases k <;> rfl

@[simp] theorem setTask_bcnt (s : State) (k : Slot) (r : TaskRec) : (s.setTask k r).bcnt = s.bcnt := by
  cases k <;> rfl

@[simp] theorem setTask_acc (s : State) (k : Slot) (r : TaskRec) : (s.setTask k r).acc = s.acc := by
  cases k <;> rfl

@[simp] theorem setTask_icode (s : State) (k : Slot) (r : TaskRec) : (s.setTask k r).icode = s.icode := by
  cases k <;> rfl

@[simp] theorem setTask_latch (s : State) (k : Slot) (r : TaskRec) : (s.setTask k r).latch = s.latch := by
  cases k <;> rfl

@[simp] theorem setTask_clk (s : State) (k : Slot) (r : TaskRec) : (s.setTask k r).clk = s.clk := by
  cases k <;> rfl

@[simp] theorem setTask_spos (s : State) (k : Slot) (r : TaskRec) : (s.setTask k r).spos = s.spos := by
  cases k <;> rfl

@[simp] theorem setTask_tickPend (s : State) (k : Slot) (r : TaskRec) : (s.setTask k r).tickPend = s.tickPend := by
  cases k <;> rfl

@[simp] theorem setTask_fstat (s : State) (k : Slot) (r : TaskRec) : (s.setTask k r).fstat = s.fstat := by
  cases k <;> rfl

@[simp] theorem setTask_inp (s : State) (k : Slot) (r : TaskRec) : (s.setTask k r).inp = s.inp := by
  cases k <;> rfl

@[simp] theorem setTask_draws (s : State) (k : Slot) (r : TaskRec) : (s.setTask k r).draws = s.draws := by
  cases k <;> rfl

@[simp] theorem task_setTask_self (s : State) (k : Slot) (r : TaskRec) : (s.setTask k r).task k = r := by
  cases k <;> rfl

theorem task_setTask_of_ne (s : State) {j k : Slot} (r : TaskRec) (h : j ≠ k) : (s.setTask k r).task j = s.task j := by
  cases j <;> cases k <;> first | rfl | exact absurd rfl h

@[simp] theorem bumpElapsed_wcnt (k : Slot) (s : State) : (bumpElapsed k s).wcnt = s.wcnt := setTask_wcnt ..

@[simp] theorem bumpElapsed_bcnt (k : Slot) (s : State) : (bumpElapsed k s).bcnt = s.bcnt := setTask_bcnt ..

@[simp] theorem bumpElapsed_acc (k : Slot) (s : State) : (bumpElapsed k s).acc = s.acc := setTask_acc ..

@[simp] theorem bumpElapsed_icode (k : Slot) (s : State) : (bumpElapsed k s).icode = s.icode := setTask_icode ..

@[simp] theorem bumpElapsed_latch (k : Slot) (s : State) : (bumpElapsed k s).latch = s.latch := setTask_latch ..

@[simp] theorem bumpElapsed_clk (k : Slot) (s : State) : (bumpElapsed k s).clk = s.clk := setTask_clk ..

@[simp] theorem bumpElapsed_spos (k : Slot) (s : State) : (bumpElapsed k s).spos = s.spos := setTask_spos ..

@[simp] theorem bumpElapsed_tickPend (k : Slot) (s : State) : (bumpElapsed k s).tickPend = s.tickPend := setTask_tickPend ..

@[simp] theorem bumpElapsed_fstat (k : Slot) (s : State) : (bumpElapsed k s).fstat = s.fstat := setTask_fstat ..

@[simp] theorem bumpElapsed_inp (k : Slot) (s : State) : (bumpElapsed k s).inp = s.inp := setTask_inp ..

@[simp] theorem bumpElapsed_draws (k : Slot) (s : State) : (bumpElapsed k s).draws = s.draws := setTask_draws ..

@[simp] theorem storeResult_wcnt (k : Slot) (r : State × StateCode) : (storeResult k r).wcnt = r.1.wcnt := setTask_wcnt ..

@[simp] theorem storeResult_bcnt (k : Slot) (r : State × StateCode) : (storeResult k r).bcnt = r.1.bcnt := setTask_bcnt ..

@[simp] theorem storeResult_acc (k : Slot) (r : State × StateCode) : (storeResult k r).acc = r.1.acc := setTask_acc ..

@[simp] theorem storeResult_icode (k : Slot) (r : State × StateCode) : (storeResult k r).icode = r.1.icode := setTask_icode ..

@[simp] theorem storeResult_latch (k : Slot) (r : State × StateCode) : (storeResult k r).latch = r.1.latch := setTask_latch ..

@[simp] theorem storeResult_clk (k : Slot) (r : State × StateCode) : (storeResult k r).clk = r.1.clk := setTask_clk ..

@[simp] theorem storeResult_spos (k : Slot) (r : State × StateCode) : (storeResult k r).spos = r.1.spos := setTask_spos ..

@[simp] theorem storeResult_tickPend (k : Slot) (r : State × StateCode) : (storeResult k r).tickPend = r.1.tickPend := setTask_tickPend ..

@[simp] theorem storeResult_fstat (k : Slot) (r : State × StateCode) : (storeResult k r).fstat = r.1.fstat := setTask_fstat ..

@[simp] theorem storeResult_inp (k : Slot) (r : State × StateCode) : (storeResult k r).inp = r.1.inp := setTask_inp ..

@[simp] theorem storeResult_draws (k : Slot) (r : State × StateCode) : (storeResult k r).draws = r.1.draws := setTask_draws ..

@[simp] theorem task_bumpElapsed_self (k : Slot) (s : State) :
    (bumpElapsed k s).task k = ⟨(s.task k).state, (s.task k).elapsed + 1⟩ := task_setTask_self ..

theorem task_bumpElapsed_of_ne {j k : Slot} (s : State) (h : j ≠ k) : (bumpElapsed k s).task j = s.task j :=
  task_setTask_of_ne _ _ h

@[simp] theorem task_storeResult_self (k : Slot) (r : State × StateCode) : (storeResult k r).task k = ⟨r.2, 0⟩ :=
  task_setTask_self ..

/-- A slot that has stepped holds its result, with `ELAPSED` at 1 (41_scheduler R96). -/
theorem task_bump_store_self (k : Slot) (r : State × StateCode) :
    (bumpElapsed k (storeResult k r)).task k = ⟨r.2, 1⟩ := by
  simp

theorem task_storeResult_of_ne {j k : Slot} (r : State × StateCode) (h : j ≠ k) :
    (storeResult k r).task j = r.1.task j := task_setTask_of_ne _ _ h

end Sys2Proof.Machine
end

