-- ==== Sys2Proof/Laws/Ops.lean ====
section
/-! SUPPORT. What each shared operation can do, said once: `finishStep`, `decoderStep`, `dispatch`, `visitSlot`, `exec` and
`step`. -/

namespace Sys2Proof.Machine

/-! ### The bit-level helpers -/

theorem waitOver_iff (t : Byte) (s : State) : waitOver t s = true ↔ t.toNat ≤ s.wcnt.toNat := by
  simp [waitOver, BitVec.ule]

theorem due_iff (c : Config) (k : Slot) (s : State) : s.due c k = true ↔ (s.task k).elapsed = c.period k := by
  simp [State.due]

theorem lastBitDone_iff (c : Config) (s : State) : lastBitDone c s = true ↔ s.bcnt = c.nBits := by
  simp [lastBitDone]

/-- The shift of R78 in fields: the low seven bits move up and the sampled bit enters at bit 0. -/
theorem shiftIn_eq_append (acc : Byte) (d : Bool) : shiftIn acc d = acc.extractLsb' 0 7 ++ BitVec.ofBool d := by
  cases d <;> revert acc <;> decide

@[simp] theorem ofCode_code (x : DState) : DState.ofCode x.code = some x := by cases x <;> rfl

theorem code_of_ofCode {v : StateCode} {x : DState} (h : DState.ofCode v = some x) : v = x.code := by
  revert h; revert v; cases x <;> decide

/-- The only decoder code that names no state is 7 (30_encoding R60, R69). -/
theorem ofCode_eq_none_iff (v : StateCode) : DState.ofCode v = none ↔ v = 7 := by revert v; decide

@[simp] theorem spos_ofCode_code (p : SPos) : SPos.ofCode p.code = p := by cases p <;> rfl

theorem code_injective {x y : DState} (h : x.code = y.code) : x = y := by
  simpa using congrArg DState.ofCode h

/-! ### The decoder step -/

@[simp] theorem finishStep_snd (c : Config) (x x' : DState) (s : State) : (finishStep c x x' s).2 = x'.code := rfl

/-- What `finishStep` leaves alone: everything but `WCNT`, `BCNT`, `ACC`, `ICODE` and the two lines. -/
theorem finishStep_frame (c : Config) (x x' : DState) (s : State) :
    (finishStep c x x' s).1 = { s with
      wcnt := (finishStep c x x' s).1.wcnt, bcnt := (finishStep c x x' s).1.bcnt
      acc := (finishStep c x x' s).1.acc, icode := (finishStep c x x' s).1.icode
      latch := x' == .init || x' == .waitA, clk := x' == .waitB } := by
  unfold finishStep
  cases x' <;> simp only [actionPass, outputDrive] <;> split <;> rfl

/-- The decoder step writes no register but `WCNT`, `BCNT`, `ACC`, `ICODE`, the two lines and, on the reserved code,
`FSTAT` (40_decoder R75, 41_scheduler R97). -/
theorem decoderStep_frame (c : Config) (s : State) :
    (decoderStep c s).1 = { s with
      wcnt := (decoderStep c s).1.wcnt, bcnt := (decoderStep c s).1.bcnt, acc := (decoderStep c s).1.acc
      icode := (decoderStep c s).1.icode, latch := (decoderStep c s).1.latch, clk := (decoderStep c s).1.clk
      fstat := (decoderStep c s).1.fstat } := by
  unfold decoderStep
  cases DState.ofCode s.dstate with
  | none => rfl
  | some x =>
    cases x <;>
      simp only [stepStart, stepInit, stepWaitA, stepReadFirst, stepWaitB, stepWaitC, stepFinal] <;>
      (repeat' split) <;> (rw [finishStep_frame]; try rfl)

/-- The transition relation of 40_decoder R91: from which state, under which condition, to which state. -/
theorem decoderStep_transitions (c : Config) (s : State) (x : DState) : DState.ofCode s.dstate = some x →
    decoderStep c s = match x with
      | .start => finishStep c .start .init s
      | .init => finishStep c .init .waitA s
      | .waitA => if waitOver c.tLatch s then finishStep c .waitA .readFirst s else finishStep c .waitA .waitA s
      | .readFirst => finishStep c .readFirst .waitB s
      | .waitB =>
        if waitOver c.tSettle s then finishStep c .waitB .waitC (sample s) else finishStep c .waitB .waitB s
      | .waitC =>
        if waitOver c.tPost s then
          if lastBitDone c s then finishStep c .waitC .final s else finishStep c .waitC .waitB s
        else finishStep c .waitC .waitC s
      | .final => finishStep c .final .init s := by
  intro h
  unfold decoderStep
  rw [h]
  cases x <;> rfl

/-- The reserved code raises `BADST` and returns itself (40_decoder R86). -/
theorem decoderStep_reserved (c : Config) (s : State) (h : s.dstate = 7) :
    decoderStep c s = (s.raise .badst, 7) := by
  have h0 : DState.ofCode s.dstate = none := (ofCode_eq_none_iff _).2 h
  unfold decoderStep
  rw [h0, h]

/-- A field the decoder step neither reads nor writes (another slot's record, the slot's own `ELAPSED`, the position,
the pending tick, the rest of the inputs) may be changed before it or after it alike (40_decoder R75, 20_memory R54). -/
theorem finishStep_update (c : Config) (x x' : DState) (s : State) (r0 r1 r2 : TaskRec) (p : SPos) (b : Bool)
    (i : Inputs) (n : Nat) :
    finishStep c x x'
        { s with task0 := r0, task1 := r1, task2 := r2, spos := p, tickPend := b, inp := i, draws := n } =
      ({ (finishStep c x x' s).1 with
          task0 := r0, task1 := r1, task2 := r2, spos := p, tickPend := b, inp := i, draws := n }, x'.code) := by
  unfold finishStep
  cases x' <;> simp only [actionPass, outputDrive] <;> split <;> rfl

/-- The same for the whole decoder step, whose two inputs are `DSTATE` and the data level. -/
theorem decoderStep_update (c : Config) (s : State) (e : Byte) (r1 r2 : TaskRec) (p : SPos) (b : Bool)
    (i : Inputs) (n : Nat) (hi : i.data = s.inp.data) :
    decoderStep c
        { s with task0 := ⟨s.task0.state, e⟩, task1 := r1, task2 := r2, spos := p, tickPend := b, inp := i, draws := n } =
      ({ (decoderStep c s).1 with
          task0 := ⟨s.task0.state, e⟩, task1 := r1, task2 := r2, spos := p, tickPend := b, inp := i, draws := n },
        (decoderStep c s).2) := by
  let u (s : State) : State :=
    { s with task0 := ⟨s.task0.state, e⟩, task1 := r1, task2 := r2, spos := p, tickPend := b, inp := i, draws := n }
  change decoderStep c (u s) = _
  have hw : ∀ t, waitOver t (u s) = waitOver t s := fun _ => rfl
  have hb : lastBitDone c (u s) = lastBitDone c s := rfl
  have hs : sample (u s) = u (sample s) := by simp [sample, u, hi]
  have hf : ∀ x x' s, finishStep c x x' (u s) = _ := fun x x' s => finishStep_update c x x' s _ r1 r2 p b i n
  cases hx : DState.ofCode s.dstate with
  | none =>
    have h7 := (ofCode_eq_none_iff _).1 hx
    rw [decoderStep_reserved c s h7, decoderStep_reserved c (u s) h7]
    rfl
  | some x =>
    rw [decoderStep_transitions c s x hx, decoderStep_transitions c (u s) x hx]
    cases x <;> simp only [hw, hb, hs, hf] <;> (repeat' split) <;> rfl

/-! ### Dispatch -/

/-- `DISPATCH(k)` of a slot that is not due only counts (41_scheduler R96, R100). -/
theorem dispatch_not_due {c : Config} {k : Slot} {s : State} (f : State → Option (State × StateCode))
    (h : s.due c k = false) : dispatch c k f s = some (bumpElapsed k s) := by
  simp [dispatch, h]

/-- `DISPATCH(k)` of a due slot whose step has returned. -/
theorem dispatch_due {c : Config} {k : Slot} {s : State} {f : State → Option (State × StateCode)}
    {r : State × StateCode} (h : s.due c k = true) (hf : f s = some r) :
    dispatch c k f s = some (bumpElapsed k (storeResult k r)) := by
  simp [dispatch, h, hf]

/-- `DISPATCH(k)` of a due slot whose step has not returned has no effect yet. -/
theorem dispatch_held {c : Config} {k : Slot} {s : State} {f : State → Option (State × StateCode)}
    (h : s.due c k = true) (hf : f s = none) : dispatch c k f s = none := by
  simp [dispatch, h, hf]

/-- Everything `S_SLOTk` can do: count, step, or hold (41_scheduler R96 to R99, R102). -/
theorem visitSlot_cases (c : Config) (k : Slot) (s : State) :
    (s.due c k = false ∧ visitSlot c k s = { bumpElapsed k s with spos := posAfter k }) ∨
    (∃ r, s.due c k = true ∧ stepOf c k s = some r ∧
      visitSlot c k s = { bumpElapsed k (storeResult k r) with spos := posAfter k }) ∨
    (s.due c k = true ∧ stepOf c k s = none ∧ visitSlot c k s = s) := by
  cases h : s.due c k
  · exact .inl ⟨rfl, by simp [visitSlot, dispatch_not_due _ h]⟩
  · cases hf : stepOf c k s with
    | none => exact .inr (.inr ⟨rfl, rfl, by simp [visitSlot, dispatch_held h hf]⟩)
    | some r => exact .inr (.inl ⟨r, rfl, rfl, by simp [visitSlot, dispatch_due h hf]⟩)

/-- `S_SLOT0` of a due slot: the decoder step's writes, its result, `ELAPSED` at 1 (41_scheduler R97). -/
theorem visitSlot_slot0_due {c : Config} {s : State} (h : s.due c .slot0 = true) :
    visitSlot c .slot0 s =
      { (decoderStep c s).1 with task0 := ⟨(decoderStep c s).2, 1⟩, spos := .slot1 } := by
  simp only [visitSlot, stepOf]
  rw [dispatch_due h rfl]
  rfl

/-- The external step takes the answer off the port and writes no register (41_scheduler R102). -/
theorem extStep_eq_some {s : State} {r : State × StateCode} (h : extStep s = some r) :
    s.inp.ans = some r.2 ∧ r.1 = { s with inp := { s.inp with ans := none } } := by
  unfold extStep at h
  split at h <;> simp_all
  subst h; simp

/-- `S_SLOT1` of a due slot with its answer come (41_scheduler R98). -/
theorem visitSlot_slot1_due {c : Config} {s : State} {a : StateCode} (h : s.due c .slot1 = true)
    (ha : s.inp.ans = some a) :
    visitSlot c .slot1 s =
      { s with task1 := ⟨a, 1⟩, spos := .slot2, inp := { s.inp with ans := none } } := by
  simp only [visitSlot]
  rw [dispatch_due h (r := ({ s with inp := { s.inp with ans := none } }, a)) (by simp [stepOf, extStep, ha])]
  rfl

/-- `S_SLOT2` of a due slot with its answer come (41_scheduler R99). -/
theorem visitSlot_slot2_due {c : Config} {s : State} {a : StateCode} (h : s.due c .slot2 = true)
    (ha : s.inp.ans = some a) :
    visitSlot c .slot2 s =
      { s with task2 := ⟨a, 1⟩, spos := .idle, inp := { s.inp with ans := none } } := by
  simp only [visitSlot]
  rw [dispatch_due h (r := ({ s with inp := { s.inp with ans := none } }, a)) (by simp [stepOf, extStep, ha])]
  rfl

/-- When the block presents a request, and which: at slot 1 or 2 with that slot due (41_scheduler R102). -/
theorem extRequest_eq_some_iff (c : Config) (s : State) (r : ExtRequest) : extRequest c s = some r ↔
    s.spos = .slot1 ∧ s.due c .slot1 = true ∧ r = ⟨.slot1, s.task1.state, s.icode⟩ ∨
    s.spos = .slot2 ∧ s.due c .slot2 = true ∧ r = ⟨.slot2, s.task2.state, s.icode⟩ := by
  unfold extRequest
  cases hp : s.spos
  · simp
  · simp
  · cases s.due c .slot1 <;> simp [@eq_comm _ r]
  · cases s.due c .slot2 <;> simp [@eq_comm _ r]

/-- A request shows the `ICODE` of its state (41_scheduler R108). -/
theorem extRequest_icode {c : Config} {s : State} {r : ExtRequest} (h : extRequest c s = some r) :
    r.icode = s.icode := by
  obtain ⟨_, _, rfl⟩ | ⟨_, _, rfl⟩ := (extRequest_eq_some_iff c s r).1 h <;> rfl

/-! ### One operation, one step -/

/-- Every operation answers a next state, its effect under this hardware's configuration. -/
theorem exec_eq_effect (i : Instr) (s : State) : exec i s = .next (effect Config.mgsds i s) := by
  cases i <;> rfl

/-- A step is the selected operation's effect and the environment's draw. -/
theorem step_eq (s : State) : step s = .next (effect Config.mgsds (fetch s) s).redraw := by
  simp [step, exec_eq_effect]

/-- The operations a step can select: a reset, a tick, or the one of the scheduler position (30_encoding R62). -/
theorem fetch_cases (s : State) :
    (∃ tick, s.inp.ev.getLsbD 1 = true ∧ fetch s = .evRst tick) ∨
    (s.inp.ev.getLsbD 1 = false ∧ s.inp.ev.getLsbD 0 = true ∧ fetch s = .evTick) ∨
    (s.inp.ev.getLsbD 1 = false ∧ s.inp.ev.getLsbD 0 = false ∧ fetch s = s.spos.op) := by
  unfold fetch decodeEv
  cases h1 : s.inp.ev.getLsbD 1 <;> cases h0 : s.inp.ev.getLsbD 0 <;> simp [decodeSpos]

/-- With no event the step performs the operation of the scheduler position (30_encoding R61, R62). -/
theorem fetch_no_event {s : State} (h : s.inp.ev = 0b00) : fetch s = s.spos.op := by
  simp [fetch, decodeEv, decodeSpos, h]

end Sys2Proof.Machine
end

