-- ==== Sys2Proof/Laws/PerInstr.lean ====
section
/-! SUPPORT. The per-instruction family `TableRow`: an operation's encoding and its row of spec/opcode_table.json. -/

namespace Sys2Proof.Laws

/-- The formats of spec/opcode_table.json: the three selector fields (30_encoding R74). -/
inductive Format where
  | ev
  | spos
  | dstate
deriving DecidableEq, Repr

/-- A row of spec/opcode_table.json. -/
structure Row where
  format : Format
  mask : Nat
  match_ : Nat
deriving DecidableEq, Repr

/-- The format of a selector field. -/
def formatOf : Selector → Format
  | .ev _ => .ev
  | .spos _ => .spos
  | .dstate _ => .dstate

/-- The bits of a selector field, as a number. -/
def wordOf : Selector → Nat
  | .ev v => v.toNat
  | .spos v => v.toNat
  | .dstate v => v.toNat

/-- The row of an operation, copied from spec/opcode_table.json. -/
def rowOf : Instr → Row
  | .evRst _ => ⟨.ev, 0b10, 0b10⟩
  | .evTick => ⟨.ev, 0b11, 0b01⟩
  | .sIdle => ⟨.spos, 0b11, 0b00⟩
  | .sSlot0 => ⟨.spos, 0b11, 0b01⟩
  | .sSlot1 => ⟨.spos, 0b11, 0b10⟩
  | .sSlot2 => ⟨.spos, 0b11, 0b11⟩
  | .dStart => ⟨.dstate, 0b111, 0b000⟩
  | .dInit => ⟨.dstate, 0b111, 0b001⟩
  | .dWaitA => ⟨.dstate, 0b111, 0b010⟩
  | .dReadFirst => ⟨.dstate, 0b111, 0b011⟩
  | .dWaitB => ⟨.dstate, 0b111, 0b100⟩
  | .dWaitC => ⟨.dstate, 0b111, 0b101⟩
  | .dFinal => ⟨.dstate, 0b111, 0b110⟩

/-- A selector field is one of a row: of its format, with the row's fixed bits. -/
abbrev Row.Holds (r : Row) (f : Selector) : Prop := formatOf f = r.format ∧ wordOf f &&& r.mask = r.match_

/-- The encoding of an operation is a word of its row, and every word of its row decodes to an operation of that row. -/
def TableRow.Statement (i : Instr) : Prop :=
  (rowOf i).Holds (encode i) ∧ ∀ f, (rowOf i).Holds f → ∃ j, decode f = .ok j ∧ rowOf j = rowOf i

/-- A statement over every selector field is one over the values of its three fields. -/
theorem forall_selector {P : Selector → Prop} (e : ∀ v, P (.ev v)) (p : ∀ v, P (.spos v)) (d : ∀ v, P (.dstate v)) :
    ∀ f, P f
  | .ev v => e v
  | .spos v => p v
  | .dstate v => d v

theorem TableRow.evRst (tick : Bool) : TableRow.Statement (.evRst tick) := by
  refine ⟨by cases tick <;> decide, forall_selector (fun v h => ⟨.evRst (v.getLsbD 0), ?_, rfl⟩)
    (fun v h => nomatch h.1) (fun v h => nomatch h.1)⟩
  cases tick <;> revert v <;> decide

/-- A row without open bits has one word, which decodes to its operation. -/
theorem TableRow.of_one_word {i : Instr} (hi : (rowOf i).Holds (encode i))
    (one : ∀ f, (rowOf i).Holds f → f = encode i) (d : decode (encode i) = .ok i) : TableRow.Statement i :=
  ⟨hi, fun f hf => ⟨i, by rw [one f hf]; exact d, rfl⟩⟩

theorem TableRow.evTick : TableRow.Statement .evTick :=
  TableRow.of_one_word (by decide) (forall_selector (by decide) (by decide) (by decide)) rfl

theorem TableRow.sIdle : TableRow.Statement .sIdle :=
  TableRow.of_one_word (by decide) (forall_selector (by decide) (by decide) (by decide)) rfl

theorem TableRow.sSlot0 : TableRow.Statement .sSlot0 :=
  TableRow.of_one_word (by decide) (forall_selector (by decide) (by decide) (by decide)) rfl

theorem TableRow.sSlot1 : TableRow.Statement .sSlot1 :=
  TableRow.of_one_word (by decide) (forall_selector (by decide) (by decide) (by decide)) rfl

theorem TableRow.sSlot2 : TableRow.Statement .sSlot2 :=
  TableRow.of_one_word (by decide) (forall_selector (by decide) (by decide) (by decide)) rfl

theorem TableRow.dStart : TableRow.Statement .dStart :=
  TableRow.of_one_word (by decide) (forall_selector (by decide) (by decide) (by decide)) rfl

theorem TableRow.dInit : TableRow.Statement .dInit :=
  TableRow.of_one_word (by decide) (forall_selector (by decide) (by decide) (by decide)) rfl

theorem TableRow.dWaitA : TableRow.Statement .dWaitA :=
  TableRow.of_one_word (by decide) (forall_selector (by decide) (by decide) (by decide)) rfl

theorem TableRow.dReadFirst : TableRow.Statement .dReadFirst :=
  TableRow.of_one_word (by decide) (forall_selector (by decide) (by decide) (by decide)) rfl

theorem TableRow.dWaitB : TableRow.Statement .dWaitB :=
  TableRow.of_one_word (by decide) (forall_selector (by decide) (by decide) (by decide)) rfl

theorem TableRow.dWaitC : TableRow.Statement .dWaitC :=
  TableRow.of_one_word (by decide) (forall_selector (by decide) (by decide) (by decide)) rfl

theorem TableRow.dFinal : TableRow.Statement .dFinal :=
  TableRow.of_one_word (by decide) (forall_selector (by decide) (by decide) (by decide)) rfl

end Sys2Proof.Laws
end

