-- ==== Sys2Proof/Tests/Slice0.lean ====
section
/-! SUPPORT. Tests on single steps, with the results of 95_test_vectors and of the spec's tables; and, for every
obligation with hypotheses, a witness that meets them (`test_witness_…`). -/

open Sys2Proof Sys2Proof.Machine

namespace Sys2Proof.Tests

/-! ## Small states -/

/-- A state of the decoder with slot 0 due, the other registers at reset. -/
def decoderAt (x : DState) (w : Byte) (b : BitCount) (a : Byte) : State :=
  { State.reset with task0 := ⟨x.code, 1⟩, wcnt := w, bcnt := b, acc := a }

/-- The state with the data line high. -/
def high (s : State) : State := { s with inp := { s.inp with data := true } }

/-- The state with an event vector on the inputs. -/
def event (s : State) (v : BitVec 2) : State := { s with inp := { s.inp with ev := v } }

/-- A state about to dispatch an external slot, with an answer on the step port or none. -/
def slotAtWith (p : SPos) (a : Option StateCode) : State := { State.reset with spos := p, inp := ⟨0b00, false, a⟩ }

/-- The next state, when there is one. -/
def nextOf (o : Host.Outcome State Fault Refusal) : Option State :=
  match o with
  | .next t => some t
  | .fault _ => none
  | .refused _ => none

/-- The registers a decoder step writes. -/
structure DecoderRegs where
  dstate : StateCode
  wcnt : Byte
  bcnt : BitCount
  acc : Byte
  latch : Bool
  clk : Bool
  icode : Byte
deriving DecidableEq, Repr

/-- The decoder's registers of a state. -/
def decoderRegs (s : State) : DecoderRegs := ⟨s.dstate, s.wcnt, s.bcnt, s.acc, s.latch, s.clk, s.icode⟩

/-- `PERIOD` = 3 for every slot, with the default mask profile: the configuration of vector V32. -/
def period3 : Config := { Config.defaultProfile with period := fun _ => 3 }

/-! ## Well-formedness: an ill-formed term for each check -/

theorem test_wf_instr : (Instr.evRst true).wf = true ∧ Instr.dFinal.wf = true := by decide
theorem test_wf_no_ticks_refused : (Stim.ticks 0 true).wf = false := by decide
theorem test_wf_too_many_ticks_refused : (Stim.ticks 16384 true).wf = false := by decide
theorem test_wf_ticks_at_the_edges : (Stim.ticks 1 true).wf = true ∧ (Stim.ticks 16383 false).wf = true := by decide
theorem test_wf_stub_slot_refused : (Stim.stub 0 .keep).wf = false ∧ (Stim.stub 3 .echo).wf = false := by decide
theorem test_wf_default_profile : Config.defaultProfile.wf = true := by decide
theorem test_wf_period3 : period3.wf = true := by decide
theorem test_wf_period_zero_refused : ({ Config.defaultProfile with period := fun _ => 0 } : Config).wf = false := by decide
theorem test_wf_dwell_zero_refused :
    ({ Config.defaultProfile with tLatch := 0 } : Config).wf = false ∧
    ({ Config.defaultProfile with tSettle := 0 } : Config).wf = false ∧
    ({ Config.defaultProfile with tPost := 0 } : Config).wf = false := by decide
theorem test_wf_nbits_refused : ({ Config.defaultProfile with nBits := 7 } : Config).wf = false := by decide
theorem test_wf_mask_repeat_refused : ({ Config.defaultProfile with mask := fun _ => 0x01 } : Config).wf = false := by decide
theorem test_wf_mask_two_bits_refused :
    ({ Config.defaultProfile with mask := fun k => if k = .b then 0x81 else defaultMask k } : Config).wf = false := by decide
theorem test_wf_fixed_part_refused :
    ({ Config.defaultProfile with nTasks := 4 } : Config).wf = false ∧
    ({ Config.defaultProfile with slotTask := fun _ => .controllerDecoder } : Config).wf = false := by decide

/-! ## Decoding: words written out from 30_encoding R60 to R62, R73 -/

/-- R62: `{RST, TICK}`. -/
theorem test_decode_ev_rst : decode (.ev 0b10) = .ok (.evRst false) ∧ decode (.ev 0b11) = .ok (.evRst true) := by decide
theorem test_decode_ev_tick : decode (.ev 0b01) = .ok .evTick := by decide
theorem test_decode_no_event : decode (.ev 0b00) = .error .noEvent := by decide
/-- R61. -/
theorem test_decode_s_idle : decode (.spos 0b00) = .ok .sIdle := by decide
theorem test_decode_s_slot0 : decode (.spos 0b01) = .ok .sSlot0 := by decide
theorem test_decode_s_slot1 : decode (.spos 0b10) = .ok .sSlot1 := by decide
theorem test_decode_s_slot2 : decode (.spos 0b11) = .ok .sSlot2 := by decide
/-- R60. -/
theorem test_decode_d_start : decode (.dstate 0b000) = .ok .dStart := by decide
theorem test_decode_d_init : decode (.dstate 0b001) = .ok .dInit := by decide
theorem test_decode_d_wait_a : decode (.dstate 0b010) = .ok .dWaitA := by decide
theorem test_decode_d_read_first : decode (.dstate 0b011) = .ok .dReadFirst := by decide
theorem test_decode_d_wait_b : decode (.dstate 0b100) = .ok .dWaitB := by decide
theorem test_decode_d_wait_c : decode (.dstate 0b101) = .ok .dWaitC := by decide
theorem test_decode_d_final : decode (.dstate 0b110) = .ok .dFinal := by decide
/-- R69: the reserved code. -/
theorem test_decode_reserved_dstate : decode (.dstate 0b111) = .error .reservedDstate := by decide
/-- The table words, in the reading of log 8. -/
theorem test_decode_table_words :
    decodeTableWord 8 0b01 = some .sSlot0 ∧ decodeTableWord 8 0b110 = some .dFinal ∧
    decodeTableWord 3 0b010 = some .dWaitA ∧ decodeTableWord 8 0b111 = none ∧ decodeTableWord 8 8 = none := by decide
/-- R73: the examples of its table. -/
theorem test_stim_words :
    decodeStim 0x8000 = .ok .rst ∧ decodeStim 0x4035 = .ok (.ticks 53 true) ∧
    decodeStim 0x0001 = .ok (.ticks 1 false) ∧ decodeStim 0xD000 = .ok (.stub 1 .keep) ∧
    decodeStim 0xE001 = .ok (.stub 2 .echo) := by decide
/-- R73: each kind of reserved word is refused. -/
theorem test_stim_reserved_words :
    decodeStim 0x4000 = .error .noTicks ∧ decodeStim 0x8001 = .error .reservedRst ∧
    decodeStim 0xC000 = .error .badSlot ∧ decodeStim 0xF000 = .error .badSlot ∧
    decodeStim 0xD002 = .error .badStub := by decide

/-! ## A word placed for the next step runs as the first instruction after reset -/

theorem test_first_step_idle :
    (nextOf (step (State.reset.withFetchWord 8 0b00))).map (fun t => t.spos) = some .idle := by decide
theorem test_first_step_slot0 :
    (nextOf (step (State.reset.withFetchWord 8 0b01))).map (fun t => (t.spos, t.dstate)) = some (.slot1, 1) := by decide
theorem test_first_step_final :
    (nextOf (step (State.reset.withFetchWord 3 0b110))).map (fun t => (t.spos, t.dstate, t.latch)) =
      some (.slot1, 1, true) := by decide
theorem test_first_step_reset_event :
    (nextOf (step (({ State.reset with icode := 5 } : State).present (.ev 0b11)))).map (fun t => t.icode) = some 0 := by decide

/-! ## Decoding a byte: V1 to V12, with the default mask profile (MP) -/

theorem test_V1_V8_single_bits :
    [0x7F, 0xBF, 0xDF, 0xEF, 0xF7, 0xFB, 0xFD, 0xFE].map (fun a : Byte => decodeInv defaultMask (invert a)) =
      [8, 7, 5, 6, 1, 2, 3, 4] := by decide
theorem test_V9_V12_no_single_bit :
    [0xFF, 0x00, 0xF3, 0x7E].map (fun a : Byte => decodeInv defaultMask (invert a)) = [0, 0, 0, 0] := by decide

/-! ## The decoder operations: V13 to V26 -/

theorem test_V13_start :
    (nextOf (exec .dStart State.reset)).map decoderRegs = some ⟨1, 0, 0, 0x00, true, false, 0⟩ := by decide
theorem test_V14_init :
    (nextOf (exec .dInit (decoderAt .init 0 0 0))).map decoderRegs = some ⟨2, 1, 0, 0x00, true, false, 0⟩ := by decide
theorem test_V15_wait_a_stays :
    (nextOf (exec .dWaitA (decoderAt .waitA 1 0 0))).map decoderRegs = some ⟨2, 2, 0, 0x00, true, false, 0⟩ := by decide
theorem test_V16_wait_a_leaves :
    (nextOf (exec .dWaitA (decoderAt .waitA 2 0 0))).map decoderRegs = some ⟨3, 0, 0, 0x00, false, false, 0⟩ := by decide
theorem test_V17_read_first :
    (nextOf (exec .dReadFirst (high (decoderAt .readFirst 0 0 0)))).map decoderRegs =
      some ⟨4, 1, 0, 0x00, false, true, 0⟩ := by decide
theorem test_V18_wait_b_stays :
    (nextOf (exec .dWaitB (high (decoderAt .waitB 1 0 0)))).map decoderRegs =
      some ⟨4, 2, 0, 0x00, false, true, 0⟩ := by decide
theorem test_V20_V21_wait_b_samples :
    (nextOf (exec .dWaitB (decoderAt .waitB 2 4 0x0F))).map decoderRegs =
      some ⟨5, 1, 5, 0x1E, false, false, 0⟩ ∧
    (nextOf (exec .dWaitB (high (decoderAt .waitB 2 7 0x7B)))).map decoderRegs =
      some ⟨5, 1, 8, 0xF7, false, false, 0⟩ := by decide
theorem test_V22_V23_wait_c :
    (nextOf (exec .dWaitC (decoderAt .waitC 3 5 0))).map decoderRegs = some ⟨5, 4, 5, 0x00, false, false, 0⟩ ∧
    (nextOf (exec .dWaitC (decoderAt .waitC 4 5 0))).map decoderRegs = some ⟨4, 1, 5, 0x00, false, true, 0⟩ := by decide
/-- V24 (MP): the step that enters `FINAL` publishes. -/
theorem test_V24_wait_c_publishes :
    decoderRegs (effect Config.defaultProfile .dWaitC (decoderAt .waitC 4 8 0xF7)) =
      ⟨6, 0, 8, 0xF7, false, false, 1⟩ := by decide
theorem test_V25_final :
    (nextOf (exec .dFinal { decoderAt .final 0 8 0xF7 with icode := 1 })).map decoderRegs =
      some ⟨1, 0, 0, 0x00, true, false, 1⟩ := by decide
/-- V26: the reserved code. -/
theorem test_V26_reserved_state :
    (nextOf (exec .sSlot0 { State.reset with task0 := ⟨7, 1⟩, wcnt := 3, spos := .slot0 })).map
      (fun t => (t.dstate, t.fstat, t.wcnt, t.spos)) = some (7, 0x02, 3, .slot1) := by decide

/-! ## Events and the scheduler: V27 to V29d, V32, V34, V35 -/

theorem test_V27_tick_accepted :
    (nextOf (exec .evTick State.reset)).map (fun t => (t.tickPend, t.spos, t.fstat)) = some (true, .idle, 0) := by decide
theorem test_V29_overrun :
    (nextOf (exec .evTick { State.reset with spos := .slot2, tickPend := true })).map
      (fun t => (t.fstat, t.tickPend, t.spos)) = some (0x01, true, .slot2) := by decide
theorem test_V29a_idle_holds : nextOf (exec .sIdle State.reset) = some State.reset := by decide
theorem test_V29b_idle_accepts :
    (nextOf (exec .sIdle { State.reset with tickPend := true })).map (fun t => (t.spos, t.tickPend)) =
      some (.slot0, false) := by decide
theorem test_V29c_slot1_answered :
    (nextOf (exec .sSlot1 { slotAtWith .slot1 (some 3) with task1 := ⟨3, 1⟩ })).map (fun t => (t.task1, t.spos)) =
      some (⟨3, 1⟩, .slot2) := by decide
theorem test_V29d_slot2_unanswered :
    nextOf (exec .sSlot2 (slotAtWith .slot2 none)) = some (slotAtWith .slot2 none) := by decide
/-- V32: with `PERIOD` = 3, slot 0 steps in the first round and `ELAPSED` is then 1. -/
theorem test_V32_first_round :
    (roundOnce period3 ⟨true, 0, 0⟩ (resetRegisters period3 State.reset)).task0 = ⟨1, 1⟩ := by decide
/-- V32: in the second round it is not due, and `ELAPSED` counts on. -/
theorem test_V32_second_round :
    (roundOnce period3 ⟨true, 0, 0⟩ { State.reset with task0 := ⟨1, 1⟩ }).task0 = ⟨1, 2⟩ := by decide
/-- The 8-bit wrap of `ELAPSED` (10_state R26, 41_scheduler R104). -/
theorem test_elapsed_wraps :
    (nextOf (exec .sSlot2 { slotAtWith .slot2 none with task2 := ⟨5, 255⟩ })).map (fun t => (t.task2, t.spos)) =
      some (⟨5, 0⟩, .idle) := by decide
/-- V34, V35: a state of which reset leaves nothing, whether `TICK` is asserted or not. -/
theorem test_V34_V35_reset (tick : Bool) :
    (nextOf (exec (.evRst tick)
      { State.reset with
        task0 := ⟨5, 1⟩, task1 := ⟨0, 0⟩, task2 := ⟨4, 1⟩, wcnt := 3, bcnt := 6, acc := 0x3D, icode := 5
        latch := true, clk := true, spos := .slot1, tickPend := true, fstat := 0x03 })) = some State.reset := by
  cases tick <;> decide
/-- V36: the first tick's round ends in the tick-1 row of section 4. -/
theorem test_V36_first_tick :
    decoderRegs (Bench.tick Config.defaultProfile true (Bench.ofState State.reset)).dut =
      ⟨1, 0, 0, 0x00, true, false, 0⟩ := by decide
/-- R87: the read cycle is 53 ticks, `S_5` of cycle 1 is tick 31, `F_1` is tick 53 and `S_3` of cycle 2 tick 72. -/
theorem test_read_cycle_ticks :
    Config.mgsds.tCycle = 53 ∧ sampleTick Config.mgsds 1 5 = 31 ∧ finalTick Config.mgsds 1 = 53 ∧
    sampleTick Config.mgsds 2 3 = 72 := by decide
/-- R23: the hardwired ids. -/
theorem test_slot_ids : Slot.all.map Slot.id = [0, 1, 2] := by decide

/-! ## Witnesses: events and selection -/

theorem test_witness_StepRunsSelectedOperation :
    decode (selectorOf State.reset) = .ok .sIdle ∧ decode (selectorOf (event State.reset 0b01)) = .ok .evTick ∧
    decode (selectorOf (event State.reset 0b11)) = .ok (.evRst true) ∧
    decode (selectorOf (slotAtWith .slot2 none)) = .ok .sSlot2 := by decide
theorem test_witness_RedrawChangesOnlyTheInputs :
    extRequest Config.mgsds State.reset = none ∧
    (extRequest Config.mgsds (slotAtWith .slot1 (some 5)) = some ⟨.slot1, 0, 0⟩ ∧
      (slotAtWith .slot1 (some 5)).inp.ans = some 5) ∧
    (extRequest Config.mgsds (slotAtWith .slot2 none) = some ⟨.slot2, 0, 0⟩ ∧
      (slotAtWith .slot2 none).inp.ans = none) := by decide
theorem test_witness_DecodeEncodeRoundTrip :
    (Instr.evRst true).wf = true ∧ decode (.dstate 0b110) = .ok .dFinal := by decide
theorem test_witness_ResetHasPriority :
    (event State.reset 0b10).inp.ev.getLsbD 1 = true ∧ (event State.reset 0b11).inp.ev.getLsbD 1 = true := by decide
theorem test_witness_TickSetsPending : State.reset.tickPend = false := by decide
theorem test_witness_SecondPendingTickOverruns : ({ State.reset with tickPend := true } : State).tickPend = true := by decide
theorem test_witness_IdleAcceptsPendingTick : ({ State.reset with tickPend := true } : State).tickPend = true := by decide
theorem test_witness_IdleHoldsWithoutTick : State.reset.tickPend = false := by decide

/-! ## Witnesses: the scheduler -/

theorem test_witness_DueSlotZeroPerformsSelectedDecoderOperation :
    (decoderAt .waitB 2 7 0x7B).task0.elapsed = 1 ∧
    decode (.dstate (decoderAt .waitB 2 7 0x7B).dstate) = .ok .dWaitB := by decide
theorem test_witness_ReservedDecoderStateRaisesBadst :
    let s : State := { State.reset with task0 := ⟨7, 1⟩ }
    s.task0.elapsed = 1 ∧ s.dstate = 7 := by decide
theorem test_witness_SlotZeroNotDueOnlyCounts :
    ({ State.reset with task0 := ⟨0, 0⟩ } : State).task0.elapsed ≠ 1 ∧
    ({ State.reset with task0 := ⟨0, 255⟩ } : State).task0.elapsed ≠ 1 := by decide
theorem test_witness_SlotOneStoresTheAnswerOrHoldsOrCounts :
    ((slotAtWith .slot1 (some 5)).task1.elapsed = 1 ∧ (slotAtWith .slot1 (some 5)).inp.ans = some 5) ∧
    ((slotAtWith .slot1 none).task1.elapsed = 1 ∧ (slotAtWith .slot1 none).inp.ans = none) ∧
    ({ State.reset with task1 := ⟨0, 2⟩ } : State).task1.elapsed ≠ 1 := by decide
theorem test_witness_SlotTwoStoresTheAnswerOrHoldsOrCounts :
    ((slotAtWith .slot2 (some 5)).task2.elapsed = 1 ∧ (slotAtWith .slot2 (some 5)).inp.ans = some 5) ∧
    ((slotAtWith .slot2 none).task2.elapsed = 1 ∧ (slotAtWith .slot2 none).inp.ans = none) ∧
    ({ State.reset with task2 := ⟨0, 2⟩ } : State).task2.elapsed ≠ 1 := by decide
theorem test_witness_SlotTwo_round_ends_with_a_tick_held :
    let s : State := { slotAtWith .slot2 (some 5) with tickPend := true }
    s.tickPend = true ∧ ∃ t, exec .sSlot2 s = .next t ∧ t.spos = .idle := ⟨rfl, _, rfl, rfl⟩
theorem test_witness_DispatchFollowsItsProcedure_due :
    (State.reset.task .slot0).elapsed = Config.mgsds.period .slot0 ∧
    (stepOf Config.mgsds .slot1 (slotAtWith .slot1 (some 5))).map Prod.snd = some 5 := by decide
theorem test_witness_DispatchFollowsItsProcedure_not_returned :
    ((slotAtWith .slot1 none).task .slot1).elapsed = Config.mgsds.period .slot1 ∧
    stepOf Config.mgsds .slot1 (slotAtWith .slot1 none) = none := by decide
theorem test_witness_DispatchFollowsItsProcedure_not_due :
    (State.reset.task .slot2).elapsed ≠ period3.period .slot2 ∧ Slot.slot2 ≠ Slot.slot0 := by decide

/-! ## Witnesses: the decoder operations -/

theorem test_witness_WaitAStays : (decoderAt .waitA 1 0 0).wcnt.toNat < 2 := by decide
theorem test_witness_WaitALeaves : 2 ≤ (decoderAt .waitA 2 0 0).wcnt.toNat := by decide
theorem test_witness_WaitBStays : (decoderAt .waitB 1 0 0).wcnt.toNat < 2 := by decide
theorem test_witness_WaitBSamples : 2 ≤ (decoderAt .waitB 2 7 0).wcnt.toNat := by decide
theorem test_witness_WaitCStays : (decoderAt .waitC 3 5 0).wcnt.toNat < 4 := by decide
theorem test_witness_WaitCClocksTheNextBit :
    4 ≤ (decoderAt .waitC 4 5 0).wcnt.toNat ∧ (decoderAt .waitC 4 5 0).bcnt ≠ 8 := by decide
/-- A pressed button's byte, whatever mask this hardware has. -/
theorem test_witness_WaitCPublishesInFinal_match :
    let s := decoderAt .waitC 4 8 (~~~Config.mgsds.mask .up)
    4 ≤ s.wcnt.toNat ∧ s.bcnt = 8 ∧ Config.mgsds.mask .up = ~~~s.acc :=
  ⟨by decide, rfl, by simp [decoderAt]⟩
/-- No mask of this hardware is the byte of nothing pressed. -/
theorem mask_ne_zero (k : Button) : Config.mgsds.mask k ≠ 0x00 := by
  show defaultMask (Config.maskPermutation k) ≠ 0x00
  generalize Config.maskPermutation k = l
  cases l <;> decide
theorem test_witness_WaitCPublishesInFinal_none :
    let s := decoderAt .waitC 4 8 0xFF
    4 ≤ s.wcnt.toNat ∧ s.bcnt = 8 ∧ ∀ k : Button, Config.mgsds.mask k ≠ ~~~s.acc :=
  ⟨by decide, rfl, mask_ne_zero⟩
theorem test_witness_FinalIsFollowedByInitAtOnce :
    (decoderAt .final 0 8 0xFF).dstate = 6 ∧ (decoderAt .final 0 8 0xFF).task0.elapsed = 1 := by decide

/-! ## Witnesses: configurations and decoding -/

theorem test_witness_legal_configurations : Config.defaultProfile.Legal ∧ period3.Legal := by decide
theorem test_witness_DecodeMatchesExactlyTheSingleBitBytes :
    Config.defaultProfile.mask .up = 0x08 ∧ ∀ k ∈ Button.all, Config.defaultProfile.mask k ≠ 0x0C := by decide
theorem test_witness_IllegalConfigurationIsRefused : ¬ ({ period3 with nBits := 9 } : Config).Legal := by decide

/-! ## Witnesses: the whole machine -/

/-- A reachable state in the middle of a read cycle. -/
def midCycle : State := { decoderAt .waitB 2 7 0x7B with clk := true, spos := .slot0 }

theorem midCycle_inv : midCycle.Inv := by
  refine ⟨?_, by decide, by decide, rfl, rfl, rfl, ?_, rfl⟩
  · show _ ∧ _; decide
  · intro i _ _; show (0x00#8).getLsbD i = false; simp

theorem test_witness_StepKeepsTheReachableStateConditions : midCycle.Inv ∧ ∃ t, step midCycle = .next t :=
  ⟨midCycle_inv, _, rfl⟩
theorem test_witness_FaultBitsStayUntilReset :
    let s := event { midCycle with fstat := 0x03 } 0b01
    (∃ t, step s = .next t) ∧ s.inp.ev.getLsbD 1 = false ∧ s.fstat.getLsbD 0 = true ∧ s.fstat.getLsbD 1 = true :=
  ⟨⟨_, rfl⟩, by decide⟩
theorem test_witness_OnlyListedOperationsTouchFaultStatus_reset :
    let s : State := { midCycle with fstat := 0x01 }
    ∃ t, exec (.evRst false) s = .next t ∧ t.fstat ≠ s.fstat := ⟨_, rfl, by decide⟩
theorem test_witness_OnlyListedOperationsTouchFaultStatus_overrun :
    let s : State := { midCycle with tickPend := true }
    ∃ t, exec .evTick s = .next t ∧ t.fstat ≠ s.fstat := ⟨_, rfl, by decide⟩
theorem test_witness_OnlyListedOperationsTouchFaultStatus_badst :
    let s : State := { midCycle with task0 := ⟨7, 1⟩ }
    ∃ t, exec .sSlot0 s = .next t ∧ t.fstat ≠ s.fstat := ⟨_, rfl, by decide⟩
theorem test_witness_IcodeChangesOnlyOnEnteringFinal_reset :
    let s := event { midCycle with icode := 3 } 0b10
    ∃ t, step s = .next t ∧ t.icode ≠ s.icode := ⟨_, rfl, by decide⟩
/-- Nothing pressed publishes 0 over an old code, whatever mask this hardware has. -/
theorem test_witness_IcodeChangesOnlyOnEnteringFinal_publish :
    let s : State := { decoderAt .waitC 4 8 0xFF with spos := .slot0, icode := 3 }
    ∃ t, step s = .next t ∧ t.icode ≠ s.icode := by
  refine ⟨_, rfl, ?_⟩
  show decodeInv Config.mgsds.mask 0x00 ≠ 3
  rw [decodeInv_none mask_ne_zero]; decide
theorem test_witness_RegistersChangeOnlyByTheirWriters :
    (∃ t, exec .sSlot1 (slotAtWith .slot1 (some 5)) = .next t ∧ t.task1 ≠ (slotAtWith .slot1 (some 5)).task1) ∧
    (∃ t, exec .sSlot2 (slotAtWith .slot2 (some 5)) = .next t ∧ t.task2 ≠ (slotAtWith .slot2 (some 5)).task2) ∧
    ∃ t, exec .evTick State.reset = .next t :=
  ⟨⟨_, rfl, by decide⟩, ⟨_, rfl, by decide⟩, _, rfl⟩
theorem test_witness_OutputLinesFollowTheDecoderState :
    midCycle.task0.elapsed = 1 ∧ midCycle.dstate ≠ 7 ∧ ∃ t, exec .sSlot0 midCycle = .next t :=
  ⟨by decide, by decide, _, rfl⟩
theorem test_witness_SlotsAreVisitedInRegistrationOrder_tick :
    (event midCycle 0b01).inp.ev = 0b01 ∧ ∃ t, step (event midCycle 0b01) = .next t := ⟨rfl, _, rfl⟩
/-- Every position, with a due slot answered and not, and a slot not due. -/
theorem test_witness_SlotsAreVisitedInRegistrationOrder_block_steps :
    ∀ s ∈ [State.reset, { State.reset with tickPend := true }, midCycle,
        { midCycle with task0 := ⟨4, 0⟩ }, slotAtWith .slot1 (some 5), slotAtWith .slot1 none,
        { slotAtWith .slot1 none with task1 := ⟨0, 2⟩ }, slotAtWith .slot2 (some 5), slotAtWith .slot2 none,
        { slotAtWith .slot2 none with task2 := ⟨0, 255⟩ }],
      s.inp.ev = 0b00 ∧ ∃ t, step s = .next t := by
  intro s hs
  simp only [List.mem_cons, List.not_mem_nil, or_false] at hs
  rcases hs with rfl | rfl | rfl | rfl | rfl | rfl | rfl | rfl | rfl | rfl <;> exact ⟨rfl, _, rfl⟩
theorem test_witness_HeldSlotWaitsForAnswerOrReset :
    ∀ s ∈ [slotAtWith .slot1 none, slotAtWith .slot2 none, event (slotAtWith .slot2 none) 0b01],
      (s.spos = .slot1 ∧ s.task1.elapsed = 1 ∨ s.spos = .slot2 ∧ s.task2.elapsed = 1) ∧ s.inp.ans = none ∧
      s.inp.ev.getLsbD 1 = false ∧ ∃ t, step s = .next t := by
  intro s hs
  simp only [List.mem_cons, List.not_mem_nil, or_false] at hs
  rcases hs with rfl | rfl | rfl <;> exact ⟨by decide, rfl, by decide, _, rfl⟩
theorem test_witness_OnlyAnOverrunFaultsAReachableState :
    let s := event { midCycle with tickPend := true } 0b01
    s.Inv ∧ ¬ s.Faulted ∧ ∃ t, step s = .next t ∧ t.Faulted :=
  ⟨midCycle_inv, fun h => h rfl, _, rfl, fun h => absurd h (by decide)⟩

/-! ## Witnesses: the order between slots -/

/-- A step port with a request of each slot, and one with none. -/
theorem test_witness_LaterSlots_requests :
    extRequest Config.mgsds { slotAtWith .slot1 none with icode := 6 } = some ⟨.slot1, 0, 6⟩ ∧
    extRequest Config.mgsds { slotAtWith .slot2 none with icode := 6 } = some ⟨.slot2, 0, 6⟩ ∧
    extRequest Config.mgsds { slotAtWith .slot1 none with task1 := ⟨0, 2⟩ } = none := by decide
/-- Slot 1 not due after the decoder's step. -/
theorem test_witness_LaterSlots_slot1_not_due :
    ∃ t, exec .sSlot0 { midCycle with task1 := ⟨0, 2⟩ } = .next t ∧ t.task1.elapsed ≠ 1 := ⟨_, rfl, by decide⟩
/-- Slot 1 due and asked, and, once it is answered, slot 2 due and asked. -/
theorem test_witness_LaterSlotsSeeTheSameTickIcode :
    ∃ t, exec .sSlot0 midCycle = .next t ∧ t.task1.elapsed = 1 ∧ extRequest Config.mgsds t = some ⟨.slot1, 0, 0⟩ ∧
      ∃ u, exec .sSlot1 { t with inp := ⟨0b00, false, some 5⟩ } = .next u ∧
        u.spos = .slot2 ∧ u.task2.elapsed = 1 ∧ extRequest Config.mgsds u = some ⟨.slot2, 0, 0⟩ :=
  ⟨_, rfl, rfl, by decide, _, rfl, rfl, rfl, by decide⟩
theorem test_witness_DecoderIsIndependentOfExternalTasks : ∃ t, exec .sSlot0 midCycle = .next t := ⟨_, rfl⟩
theorem test_witness_FourBlockStepsMakeOneRound :
    let e : RoundEnv := ⟨true, 5, 6⟩
    let s : State := { State.reset with tickPend := true }
    ∃ s1 s2 s3 s4, s.spos = .idle ∧ s.tickPend = true ∧ s.task1.elapsed = 1 ∧ s.task2.elapsed = 1 ∧
      exec (fetch (s.feed e.data none)) (s.feed e.data none) = .next s1 ∧
      exec (fetch (s1.feed e.data none)) (s1.feed e.data none) = .next s2 ∧
      exec (fetch (s2.feed e.data (some e.ans1))) (s2.feed e.data (some e.ans1)) = .next s3 ∧
      exec (fetch (s3.feed e.data (some e.ans2))) (s3.feed e.data (some e.ans2)) = .next s4 :=
  ⟨_, _, _, _, rfl, rfl, rfl, rfl, rfl, rfl, rfl, rfl⟩

/-! ## Witnesses: many rounds -/

theorem test_witness_SlotStepsOncePerPeriod :
    let s := resetRegisters period3 State.reset
    period3.Legal ∧ ∀ k ∈ Slot.all, (s.task k).elapsed = period3.period k := by decide
theorem test_witness_EachSlotStepsOncePerTick : ∀ k, (State.reset.task k).elapsed = 1 := by
  intro k; cases k <;> rfl
/-- `ELAPSED` = 4 above `PERIOD` = 3, and the last round of the bound, 255. -/
theorem test_witness_CounterAbovePeriodWrapsBeforeStepping :
    let s : State := { State.reset with task0 := ⟨0, 4⟩ }
    period3.Legal ∧ (period3.period .slot0).toNat < (s.task .slot0).elapsed.toNat ∧
    255 ≤ 256 - (s.task .slot0).elapsed.toNat + (period3.period .slot0).toNat := by decide
theorem test_witness_WaitStatesLastExactlyTheirDwell :
    ∀ p ∈ [(DState.waitA, period3.tLatch), (.waitB, period3.tSettle), (.waitC, period3.tPost)],
      period3.Legal ∧ (p.1 = .waitA ∧ p.2 = period3.tLatch ∨ p.1 = .waitB ∧ p.2 = period3.tSettle ∨
        p.1 = .waitC ∧ p.2 = period3.tPost) ∧
      (decoderAt p.1 1 0 0).dstate = p.1.code ∧ (decoderAt p.1 1 0 0).wcnt = 1 := by decide
/-- The `INIT` state of a read cycle. -/
theorem test_witness_ReadCycle_init_state :
    let s := decoderAt .init 0 0 0
    s.dstate = DState.init.code ∧ s.wcnt = 0 ∧ s.bcnt = 0 := by decide
theorem test_witness_NoDataSequenceDisturbsTheReadCycle_fault :
    let s : State := { State.reset with task0 := ⟨7, 1⟩ }
    (decoderStep Config.mgsds s).1.fstat ≠ s.fstat := by decide
theorem test_witness_RoundsFollowTheReadCycleSchedule :
    State.reset.dstate = 0 ∧ State.reset.task0.elapsed = 1 ∧ 1 ≤ 1 := by decide
/-- The data line that shows one pressed button, for every button. -/
theorem test_witness_SinglePressedButtonIsDecoded (k : Button) :
    let s := decoderAt .init 0 0 0
    s.dstate = DState.init.code ∧ s.wcnt = 0 ∧ s.bcnt = 0 ∧
    ∃ data : Nat → Bool, ∀ i, 1 ≤ i → i ≤ 8 → data (6 * i) = !(Config.mgsds.mask k).getLsbD (8 - i) :=
  ⟨rfl, rfl, rfl, fun m => !(Config.mgsds.mask k).getLsbD (8 - m / 6), fun i _ _ => by
    simp only [Nat.mul_div_cancel_left i (by decide : 0 < 6)]⟩

/-! ## Witnesses: the stimulus notation -/

theorem test_witness_StimulusWordsRoundTrip :
    (Stim.ticks 16383 true).wf = true ∧ (Stim.stub 2 .echo).wf = true ∧
    decodeStim 0x7FFF = .ok (.ticks 16383 true) := by decide
theorem test_witness_StimulusTickIsOneRound :
    let x : Bench := ⟨.keep, .echo, State.reset⟩
    x.dut.spos = .idle ∧ x.dut.tickPend = false ∧ x.dut.task1.elapsed = 1 ∧ x.dut.task2.elapsed = 1 := by decide

end Sys2Proof.Tests
end

section
/-! SUPPORT. The slot-0 step that starts in `FINAL` (40_decoder R85, R89). -/

namespace Sys2Proof.Machine

/-- From `FINAL` the transition pass has one edge, without a condition (40_decoder R85). -/
theorem decoderStep_of_final (c : Config) {s : State} (h : s.dstate = DState.final.code) :
    decoderStep c s = finishStep c .final .init s :=
  decoderStep_transitions c s .final (h ▸ ofCode_code .final)

/-- Settles O29: a due `S_SLOT0` is the decoder step with `ELAPSED` left at 1, and from `FINAL` that step returns the
code of `INIT`. -/
theorem finalIsFollowedByInitAtOnce : Obligations.FinalIsFollowedByInitAtOnce := by
  intro s hfinal helapsed
  have hdue : s.due Config.mgsds .slot0 = true := (due_iff Config.mgsds .slot0 s).2 helapsed
  have hstep : (decoderStep Config.mgsds s).2 = DState.init.code := by
    rw [decoderStep_of_final _ hfinal, finishStep_snd]
  refine ⟨_, exec_eq_effect .sSlot0 s, ?_⟩
  rw [effect, visitSlot_slot0_due hdue]
  exact ⟨hstep, rfl⟩

end Sys2Proof.Machine
end

section
/-! SUPPORT. `DISPATCH(k)` in terms of the dispatched slot's record (41_scheduler R96). -/

namespace Sys2Proof.Machine

/-- Of two writes of one slot's record the later stands. -/
@[simp] theorem setTask_setTask_self (s : State) (k : Slot) (r r' : TaskRec) :
    (s.setTask k r).setTask k r' = s.setTask k r' := by
  cases k <;> rfl

/-- The store of a result with `ELAPSED` 0 and the unconditional count after it are one write of the slot's record. -/
theorem bumpElapsed_storeResult (k : Slot) (r : State × StateCode) :
    bumpElapsed k (storeResult k r) = r.1.setTask k ⟨r.2, 1⟩ := by
  rw [bumpElapsed, task_storeResult_self, storeResult, setTask_setTask_self]
  rfl

theorem due_eq_false_iff (c : Config) (k : Slot) (s : State) :
    s.due c k = false ↔ (s.task k).elapsed ≠ c.period k := by
  rw [← Bool.not_eq_true, due_iff]

/-- The external step has returned exactly when the port shows an answer, and then it returns that answer (R102). -/
@[simp] theorem extStep_map_snd (s : State) : (extStep s).map Prod.snd = s.inp.ans := by
  unfold extStep
  cases s.inp.ans <;> rfl

/-- Every slot but slot 0 is bound to the external step port (10_state R27). -/
theorem stepOf_of_ne_slot0 (c : Config) {k : Slot} (h : k ≠ .slot0) : stepOf c k = extStep := by
  cases k with
  | slot0 => exact absurd rfl h
  | slot1 => rfl
  | slot2 => rfl

/-- Settles O17: the three outcomes of `DISPATCH(k)` (returned, not returned, not due), with the writes of a returned step
joined into one, and then the step that each slot is bound to. -/
theorem dispatchFollowsItsProcedure : Obligations.DispatchFollowsItsProcedure := by
  intro c k s
  refine ⟨fun hdue t a hstep => ?returned, fun hdue hstep => ?notReturned, fun hne => ?notDue, rfl, fun hk => ?port⟩
  case returned => rw [dispatch_due ((due_iff c k s).2 hdue) hstep, bumpElapsed_storeResult]
  case notReturned => exact dispatch_held ((due_iff c k s).2 hdue) hstep
  case notDue => exact dispatch_not_due _ ((due_eq_false_iff c k s).2 hne)
  case port => rw [stepOf_of_ne_slot0 c hk, extStep_map_snd]

end Sys2Proof.Machine
end

section
/-! SUPPORT. The decoder step of a named state in one form: the transition pass, the sample of its one sampling edge, then
`finishStep` (40_decoder R75, R91); and what that form writes, field by field. -/

namespace Sys2Proof.Machine

/-! ### What `finishStep` writes -/

/-- The three wait states, whose action pass counts `WCNT` (40_decoder R81, R83, R84). -/
@[simp] def waits : DState → Bool
  | .waitA | .waitB | .waitC => true
  | .start | .init | .readFirst | .final => false

section
variable (c : Config) (x x' : DState) (s : State)

@[simp] theorem finishStep_task1 : (finishStep c x x' s).1.task1 = s.task1 := by rw [finishStep_frame]

@[simp] theorem finishStep_task2 : (finishStep c x x' s).1.task2 = s.task2 := by rw [finishStep_frame]

@[simp] theorem finishStep_fstat : (finishStep c x x' s).1.fstat = s.fstat := by rw [finishStep_frame]

/-- `WCNT` is cleared on a change of state and then counts in a wait state (40_decoder R76). -/
theorem finishStep_wcnt : (finishStep c x x' s).1.wcnt =
    (if x' = x then s.wcnt else 0) + (if waits x' then 1 else 0) := by
  unfold finishStep
  cases x' <;> simp only [actionPass, outputDrive, waits] <;> split <;> simp

theorem finishStep_bcnt : (finishStep c x x' s).1.bcnt = if x' = .init then 0 else s.bcnt := by
  unfold finishStep
  split <;> cases x' <;> simp [actionPass]

theorem finishStep_acc : (finishStep c x x' s).1.acc = if x' = .init then 0 else s.acc := by
  unfold finishStep
  split <;> cases x' <;> simp [actionPass]

theorem finishStep_icode : (finishStep c x x' s).1.icode =
    if x' = .final then decodeInv c.mask (invert s.acc) else s.icode := by
  unfold finishStep
  split <;> cases x' <;> simp [actionPass]

end

/-! ### The step of a named state -/

/-- The transition pass as a function of the counters alone: the data line has no part in it (40_decoder R91, R92). -/
def nextDState (c : Config) (x : DState) (w : Byte) (b : BitCount) : DState :=
  match x with
  | .start => .init
  | .init => .waitA
  | .waitA => if c.tLatch.ule w then .readFirst else .waitA
  | .readFirst => .waitB
  | .waitB => if c.tSettle.ule w then .waitC else .waitB
  | .waitC => if c.tPost.ule w then (if b == c.nBits then .final else .waitB) else .waitC
  | .final => .init

/-- The edge from `WAIT_B` to `WAIT_C`, the only one that samples (40_decoder R83). -/
@[simp] abbrev Samples (x x' : DState) : Prop := x = .waitB ∧ x' = .waitC

/-- The rest of a decoder step whose transition pass went along one edge: the sample, where the edge has one, and
`finishStep`. -/
def alongEdge (c : Config) (x x' : DState) (s : State) : State × StateCode :=
  finishStep c x x' (if Samples x x' then sample s else s)

/-- The decoder step that starts in a named state, whatever `DSTATE` holds. -/
def namedStep (c : Config) (x : DState) (s : State) : State × StateCode :=
  alongEdge c x (nextDState c x s.wcnt s.bcnt) s

theorem stepWaitA_eq (c : Config) (s : State) : stepWaitA c s = namedStep c .waitA s := by
  unfold stepWaitA namedStep alongEdge nextDState waitOver
  split <;> simp [Samples]

theorem stepWaitB_eq (c : Config) (s : State) : stepWaitB c s = namedStep c .waitB s := by
  unfold stepWaitB namedStep alongEdge nextDState waitOver
  split <;> simp [Samples]

theorem stepWaitC_eq (c : Config) (s : State) : stepWaitC c s = namedStep c .waitC s := by
  unfold stepWaitC namedStep alongEdge nextDState waitOver lastBitDone
  split
  · split <;> simp [Samples]
  · simp [Samples]

theorem decoderStep_of_named (c : Config) {s : State} {x : DState} (h : s.dstate = x.code) :
    decoderStep c s = namedStep c x s := by
  have hx : DState.ofCode s.dstate = some x := h ▸ ofCode_code x
  unfold decoderStep
  rw [hx]
  cases x with
  | start | init | readFirst | final => rfl
  | waitA => exact stepWaitA_eq c s
  | waitB => exact stepWaitB_eq c s
  | waitC => exact stepWaitC_eq c s

/-- A decoder operation is the step of the state it stands for, with the result stored (30_encoding R74, log 7). -/
theorem effect_decoderOp (c : Config) (x : DState) (s : State) :
    effect c x.op s = storeDstate (namedStep c x s) := by
  cases x with
  | start | init | readFirst | final => rfl
  | waitA => exact congrArg storeDstate (stepWaitA_eq c s)
  | waitB => exact congrArg storeDstate (stepWaitB_eq c s)
  | waitC => exact congrArg storeDstate (stepWaitC_eq c s)

/-! ### What a step along an edge writes -/

section
variable (c : Config) (x x' : DState) (s : State)

@[simp] theorem alongEdge_snd : (alongEdge c x x' s).2 = x'.code := rfl

@[simp] theorem alongEdge_task1 : (alongEdge c x x' s).1.task1 = s.task1 := by
  unfold alongEdge; split <;> simp

@[simp] theorem alongEdge_task2 : (alongEdge c x x' s).1.task2 = s.task2 := by
  unfold alongEdge; split <;> simp

@[simp] theorem alongEdge_fstat : (alongEdge c x x' s).1.fstat = s.fstat := by
  unfold alongEdge; split <;> simp

@[simp] theorem alongEdge_latch : (alongEdge c x x' s).1.latch = (x' == .init || x' == .waitA) := rfl

@[simp] theorem alongEdge_clk : (alongEdge c x x' s).1.clk = (x' == .waitB) := rfl

@[simp] theorem alongEdge_wcnt : (alongEdge c x x' s).1.wcnt =
    (if x' = x then s.wcnt else 0) + (if waits x' then 1 else 0) := by
  unfold alongEdge
  split <;> simp only [finishStep_wcnt, sample_wcnt]

@[simp] theorem alongEdge_bcnt : (alongEdge c x x' s).1.bcnt =
    if x' = .init then 0 else if Samples x x' then s.bcnt + 1 else s.bcnt := by
  unfold alongEdge
  split <;> simp only [finishStep_bcnt, sample_bcnt]

@[simp] theorem alongEdge_acc : (alongEdge c x x' s).1.acc =
    if x' = .init then 0 else if Samples x x' then shiftIn s.acc s.inp.data else s.acc := by
  unfold alongEdge
  split <;> simp only [finishStep_acc, sample_acc]

/-- `ICODE` is written on entry to `FINAL` only, from the `ACC` that the step leaves (40_decoder R85, R88). -/
theorem alongEdge_icode : (alongEdge c x x' s).1.icode =
    if x' = .final then decodeInv c.mask (~~~ (alongEdge c x x' s).1.acc) else s.icode := by
  unfold alongEdge
  split <;> simp only [finishStep_icode, finishStep_acc, sample_icode, invert] <;> split <;> simp_all

end

/-- Only `WAIT_C` leads to `FINAL` (40_decoder R91). -/
theorem waitC_of_nextDState_final {c : Config} {x : DState} {w : Byte} {b : BitCount}
    (h : nextDState c x w b = .final) : x = .waitC := by
  cases x with
  | waitC => rfl
  | start | init | readFirst | final => cases h
  | waitA => rw [nextDState] at h; split at h <;> cases h
  | waitB => rw [nextDState] at h; split at h <;> cases h

end Sys2Proof.Machine
end

section
/-! SUPPORT. What a slot's visit does to the whole state, case by case (41_scheduler R96 to R100, R102), and the fault bits of
`FSTAT` (60_exceptions R110, R111). -/

namespace Sys2Proof.Machine

/-! ### Due slots of this hardware, whose periods are 1 -/

theorem due_mgsds_iff (k : Slot) (s : State) : s.due Config.mgsds k = true ↔ (s.task k).elapsed = 1 :=
  due_iff Config.mgsds k s

theorem due_mgsds_eq_false_iff (k : Slot) (s : State) : s.due Config.mgsds k = false ↔ (s.task k).elapsed ≠ 1 :=
  due_eq_false_iff Config.mgsds k s

/-! ### The visit of slot 0 -/

/-- `S_SLOT0` of a slot that is not due (41_scheduler R100). -/
theorem visitSlot_slot0_not_due {c : Config} {s : State} (h : s.due c .slot0 = false) :
    visitSlot c .slot0 s = { s with task0 := ⟨s.task0.state, s.task0.elapsed + 1⟩, spos := .slot1 } := by
  rw [visitSlot, dispatch_not_due _ h]
  rfl

/-- `S_SLOT0` of a due slot in a named state: the step along the edge taken, its result stored with `ELAPSED` at 1. -/
theorem visitSlot_slot0_named {c : Config} {s : State} {x : DState} (h : s.due c .slot0 = true)
    (hx : s.dstate = x.code) :
    visitSlot c .slot0 s =
      { (namedStep c x s).1 with task0 := ⟨(namedStep c x s).2, 1⟩, spos := .slot1 } := by
  rw [visitSlot_slot0_due h, decoderStep_of_named c hx]

/-! ### The visit of an external slot -/

theorem visitSlot_of_not_due {c : Config} {k : Slot} {s : State} (h : s.due c k = false) :
    visitSlot c k s =
      { s.setTask k ⟨(s.task k).state, (s.task k).elapsed + 1⟩ with spos := posAfter k } := by
  rw [visitSlot, dispatch_not_due _ h]
  rfl

theorem visitSlot_answered {c : Config} {k : Slot} {s : State} {a : StateCode} (hk : k ≠ .slot0)
    (h : s.due c k = true) (ha : s.inp.ans = some a) :
    visitSlot c k s =
      { s.setTask k ⟨a, 1⟩ with spos := posAfter k, inp := { s.inp with ans := none } } := by
  cases k with
  | slot0 => exact absurd rfl hk
  | slot1 => exact visitSlot_slot1_due h ha
  | slot2 => exact visitSlot_slot2_due h ha

theorem visitSlot_held {c : Config} {k : Slot} {s : State} (hk : k ≠ .slot0)
    (h : s.due c k = true) (ha : s.inp.ans = none) : visitSlot c k s = s := by
  have hstep : stepOf c k s = none := by simp [stepOf_of_ne_slot0 c hk, extStep, ha]
  rw [visitSlot, dispatch_held h hstep]

/-- The three outcomes of `S_SLOT1` and `S_SLOT2`: count, store the answer, hold (41_scheduler R98, R99, R102). -/
theorem visitSlot_external_cases (c : Config) {k : Slot} (s : State) (hk : k ≠ .slot0) :
    (s.due c k = false ∧ visitSlot c k s =
      { s.setTask k ⟨(s.task k).state, (s.task k).elapsed + 1⟩ with spos := posAfter k }) ∨
    (∃ a, s.due c k = true ∧ s.inp.ans = some a ∧ visitSlot c k s =
      { s.setTask k ⟨a, 1⟩ with spos := posAfter k, inp := { s.inp with ans := none } }) ∨
    (s.due c k = true ∧ s.inp.ans = none ∧ visitSlot c k s = s) := by
  cases hdue : s.due c k with
  | false => exact .inl ⟨rfl, visitSlot_of_not_due hdue⟩
  | true =>
    cases ha : s.inp.ans with
    | some a => exact .inr (.inl ⟨a, rfl, rfl, visitSlot_answered hk hdue ha⟩)
    | none => exact .inr (.inr ⟨rfl, rfl, visitSlot_held hk hdue ha⟩)

/-- The visit of an external slot writes its record, the position and the port, and no other field (10_state R40). -/
theorem visitSlot_external_frame (c : Config) {k : Slot} (s : State) (hk : k ≠ .slot0) :
    ∃ r p i, visitSlot c k s = { s.setTask k r with spos := p, inp := i } := by
  obtain ⟨-, h⟩ | ⟨a, -, -, h⟩ | ⟨-, -, h⟩ := visitSlot_external_cases c s hk
  · exact ⟨⟨(s.task k).state, (s.task k).elapsed + 1⟩, posAfter k, s.inp, by rw [h]; cases k <;> rfl⟩
  · exact ⟨_, _, _, h⟩
  · exact ⟨s.task k, s.spos, s.inp, by rw [h]; cases k <;> rfl⟩

/-! ### The fault bits -/

theorem faultBit_ovr_getLsbD (i : Nat) : (faultBit .ovr).getLsbD i = decide (i = 0) := by
  simp [faultBit]

theorem faultBit_badst_getLsbD (i : Nat) : (faultBit .badst).getLsbD i = decide (i = 1) := by
  have h : faultBit .badst = BitVec.twoPow 8 1 := rfl
  rw [h, BitVec.getLsbD_twoPow]
  simp [eq_comm]

/-- `raise` sets its own bit of `FSTAT` and keeps the others (60_exceptions R111). -/
theorem raise_ovr_getLsbD (s : State) (i : Nat) :
    (s.raise .ovr).fstat.getLsbD i = (s.fstat.getLsbD i || decide (i = 0)) := by
  rw [raise_fstat, BitVec.getLsbD_or, faultBit_ovr_getLsbD]

theorem raise_badst_getLsbD (s : State) (i : Nat) :
    (s.raise .badst).fstat.getLsbD i = (s.fstat.getLsbD i || decide (i = 1)) := by
  rw [raise_fstat, BitVec.getLsbD_or, faultBit_badst_getLsbD]

end Sys2Proof.Machine
end

section
/-! SUPPORT. The reachable-state invariant of 10_state R43 is kept by every operation, and so by every step. -/

namespace Sys2Proof.Machine

/-! ### This hardware's transitions, its dwells 2, 2, 4 and its 8 bits as numbers -/

section
variable (w : Byte) (b : BitCount)

theorem nextDState_waitA : nextDState Config.mgsds .waitA w b = if 2 ≤ w.toNat then .readFirst else .waitA := by
  simp [nextDState, Config.mgsds, BitVec.ule]

theorem nextDState_waitB : nextDState Config.mgsds .waitB w b = if 2 ≤ w.toNat then .waitC else .waitB := by
  simp [nextDState, Config.mgsds, BitVec.ule]

theorem nextDState_waitC : nextDState Config.mgsds .waitC w b =
    if 4 ≤ w.toNat then (if b = 8 then .final else .waitB) else .waitC := by
  simp [nextDState, Config.mgsds, BitVec.ule]

end

/-! ### The accumulator -/

/-- A shift of one bit at most doubles the accumulator and adds 1 (40_decoder R78). -/
theorem shiftIn_toNat_le (acc : Byte) (d : Bool) : (shiftIn acc d).toNat ≤ 2 * acc.toNat + 1 := by
  cases d <;> revert acc <;> decide

/-- With `BCNT` below 8, a sample keeps `ACC` within as many bits as have been sampled (30_encoding R65). -/
theorem sample_acc_lt {s : State} (hb : s.bcnt.toNat ≤ 7) (h : s.acc.toNat < 2 ^ s.bcnt.toNat) :
    (sample s).acc.toNat < 2 ^ (sample s).bcnt.toNat := by
  have hcount : (s.bcnt + 1).toNat = s.bcnt.toNat + 1 := by simp; omega
  have hshift := shiftIn_toNat_le s.acc s.inp.data
  rw [sample_acc, sample_bcnt, hcount, pow_succ]
  omega

/-! ### The decoder's part of the invariant -/

/-- What `State.DecoderInv` asks of the decoder's registers in a named state (10_state R43). -/
def DecoderInvAt (x : DState) (s : State) : Prop :=
  match x with
  | .start | .readFirst => s.bcnt = 0 ∧ s.wcnt = 0 ∧ s.latch = false ∧ s.clk = false
  | .init => s.bcnt = 0 ∧ s.wcnt = 0 ∧ s.latch = true ∧ s.clk = false
  | .waitA => s.bcnt = 0 ∧ (1 ≤ s.wcnt.toNat ∧ s.wcnt.toNat ≤ 2) ∧ s.latch = true ∧ s.clk = false
  | .waitB => s.bcnt.toNat ≤ 7 ∧ (1 ≤ s.wcnt.toNat ∧ s.wcnt.toNat ≤ 2) ∧ s.latch = false ∧ s.clk = true
  | .waitC =>
    (1 ≤ s.bcnt.toNat ∧ s.bcnt.toNat ≤ 8) ∧ (1 ≤ s.wcnt.toNat ∧ s.wcnt.toNat ≤ 4) ∧ s.latch = false ∧ s.clk = false
  | .final => s.bcnt = 8 ∧ s.wcnt = 0 ∧ s.latch = false ∧ s.clk = false

theorem decoderInv_iff_of_named {s : State} {x : DState} (h : s.dstate = x.code) : s.DecoderInv ↔ DecoderInvAt x s := by
  rw [State.DecoderInv, h, ofCode_code]
  cases x <;> rfl

/-- A state that meets the decoder's invariant is in one of the seven named states. -/
theorem dstate_named_of_decoderInv {s : State} (h : s.DecoderInv) : ∃ x : DState, s.dstate = x.code := by
  cases hx : DState.ofCode s.dstate with
  | some x => exact ⟨x, code_of_ofCode hx⟩
  | none => rw [State.DecoderInv, hx] at h; exact h.elim

/-- The decoder step keeps the decoder's invariant: along each edge of R91 the counters start where the next state's
bounds begin, or count below the dwell. -/
theorem decoderInvAt_alongEdge {s : State} {x x' : DState} (h : DecoderInvAt x s)
    (hn : nextDState Config.mgsds x s.wcnt s.bcnt = x') : DecoderInvAt x' (alongEdge Config.mgsds x x' s).1 := by
  cases x with
  | start | final => subst hn; simp [DecoderInvAt, nextDState]
  | init | readFirst =>
    obtain ⟨hb, -⟩ := h
    subst hn
    simp [DecoderInvAt, nextDState, hb]
  | waitA =>
    obtain ⟨hb, hw, -⟩ := h
    rw [nextDState_waitA] at hn
    split at hn <;> subst hn
    · simp [DecoderInvAt, hb]
    · simp [DecoderInvAt, hb]
      omega
  | waitB =>
    obtain ⟨hb, hw, -⟩ := h
    rw [nextDState_waitB] at hn
    split at hn <;> subst hn
    · simp [DecoderInvAt]
      omega
    · simp [DecoderInvAt]
      omega
  | waitC =>
    obtain ⟨hb, hw, -⟩ := h
    rw [nextDState_waitC] at hn
    split at hn
    · split at hn <;> subst hn
      · simp [DecoderInvAt, *]
      · simp [DecoderInvAt]
        bv_omega
    · subst hn
      simp [DecoderInvAt]
      omega

theorem acc_lt_alongEdge {s : State} {x x' : DState} (h : DecoderInvAt x s) (hacc : s.acc.toNat < 2 ^ s.bcnt.toNat) :
    (alongEdge Config.mgsds x x' s).1.acc.toNat < 2 ^ (alongEdge Config.mgsds x x' s).1.bcnt.toNat := by
  rw [alongEdge_acc, alongEdge_bcnt]
  split
  · decide
  · split
    · next hs =>
      obtain ⟨rfl, rfl⟩ := hs
      exact sample_acc_lt h.1 hacc
    · exact hacc

theorem icode_le_alongEdge {s : State} {x x' : DState} (h : s.icode.toNat ≤ 8) :
    (alongEdge Config.mgsds x x' s).1.icode.toNat ≤ 8 := by
  rw [alongEdge_icode]
  split
  · exact decodeInv_le _ _
  · exact h

/-! ### The operations a step can select -/

theorem reset_inv : State.reset.Inv := by
  refine ⟨?_, by decide, by decide, rfl, rfl, rfl, fun i _ _ => ?_, rfl⟩
  · exact (decoderInv_iff_of_named (x := .start) rfl).2 ⟨rfl, rfl, rfl, rfl⟩
  · exact BitVec.getLsbD_zero

theorem inv_resetRegisters (s : State) : (resetRegisters Config.mgsds s).Inv := reset_inv

theorem inv_tickArrives {s : State} (h : s.Inv) : (tickArrives s).Inv := by
  unfold tickArrives
  split
  · obtain ⟨hd, hi, ha, h0, h1, h2, hr, hb⟩ := h
    refine ⟨hd, hi, ha, h0, h1, h2, fun i h2i hi8 => ?_, ?_⟩
    · rw [raise_ovr_getLsbD, hr i h2i hi8]
      simp; omega
    · rw [State.badst, raise_ovr_getLsbD]
      simpa [State.badst] using hb
  · exact h

theorem inv_acceptTick {s : State} (h : s.Inv) : (acceptTick s).Inv := by
  unfold acceptTick
  split
  · exact h
  · exact h

/-- An answer stored in an external slot's record, with `ELAPSED` at 1, keeps the invariant. -/
theorem inv_visitSlot_external {s : State} {k : Slot} (hk : k ≠ .slot0) (h : s.Inv) :
    (visitSlot Config.mgsds k s).Inv := by
  obtain ⟨hd, hi, ha, h0, h1, h2, hr, hb⟩ := h
  have hdue : s.due Config.mgsds k = true := by
    refine (due_mgsds_iff k s).2 ?_
    cases k <;> assumption
  obtain ⟨hnot, -⟩ | ⟨a, -, -, hv⟩ | ⟨-, -, hv⟩ := visitSlot_external_cases Config.mgsds s hk
  · rw [hdue] at hnot
    cases hnot
  · rw [hv]
    cases k with
    | slot0 => exact absurd rfl hk
    | slot1 => exact ⟨hd, hi, ha, h0, rfl, h2, hr, hb⟩
    | slot2 => exact ⟨hd, hi, ha, h0, h1, rfl, hr, hb⟩
  · rw [hv]
    exact ⟨hd, hi, ha, h0, h1, h2, hr, hb⟩

theorem inv_visitSlot_slot0 {s : State} (h : s.Inv) : (visitSlot Config.mgsds .slot0 s).Inv := by
  obtain ⟨hd, hi, ha, h0, h1, h2, hr, hb⟩ := h
  obtain ⟨x, hx⟩ := dstate_named_of_decoderInv hd
  have hat : DecoderInvAt x s := (decoderInv_iff_of_named hx).1 hd
  rw [visitSlot_slot0_named ((due_mgsds_iff .slot0 s).2 h0) hx, namedStep]
  refine ⟨?_, icode_le_alongEdge hi, acc_lt_alongEdge hat ha, rfl, ?_, ?_, ?_, ?_⟩
  · exact (decoderInv_iff_of_named rfl).2 (decoderInvAt_alongEdge hat rfl)
  · simpa using h1
  · simpa using h2
  · simpa [State.ReservedFstatZero] using hr
  · simpa [State.badst] using hb

/-- Settles O35: the reset state is the `START` state of the invariant. -/
theorem resetMeetsTheReachableStateConditions : Obligations.ResetMeetsTheReachableStateConditions :=
  reset_inv

/-- Settles O36: a step selects a reset, a tick or the operation of the position, each of which keeps the invariant, and
the draw after it changes no register. -/
theorem stepKeepsTheReachableStateConditions : Obligations.StepKeepsTheReachableStateConditions := by
  intro s t h hstep
  have ht : t = (effect Config.mgsds (fetch s) s).redraw := by
    rw [step_eq] at hstep; cases hstep; rfl
  have heffect : (effect Config.mgsds (fetch s) s).Inv := by
    obtain ⟨tick, -, hf⟩ | ⟨-, -, hf⟩ | ⟨-, -, hf⟩ := fetch_cases s
    · rw [hf]; exact inv_resetRegisters s
    · rw [hf]; exact inv_tickArrives h
    · rw [hf]
      cases s.spos with
      | idle => exact inv_acceptTick h
      | slot0 => exact inv_visitSlot_slot0 h
      | slot1 => exact inv_visitSlot_external (by decide) h
      | slot2 => exact inv_visitSlot_external (by decide) h
  rw [ht]
  exact heffect

end Sys2Proof.Machine
end

section
/-! SUPPORT. Mask tables and legal configurations (00_scope R7, R8, 30_encoding R64, R67). -/

namespace Sys2Proof

theorem Config.Legal.maskBijective {c : Config} (h : c.Legal) : c.MaskBijective := by
  obtain ⟨-, -, -, -, -, -, hm⟩ := h
  exact hm

section
variable {c : Config} (h : c.Legal)
include h

theorem Config.Legal.mask_injective {k l : Button} (hkl : c.mask k = c.mask l) : k = l := by
  obtain ⟨-, hinj, -⟩ := h.maskBijective
  exact hinj k k.mem_all l l.mem_all hkl

theorem Config.Legal.mask_mem (k : Button) : c.mask k ∈ singleBitBytes := by
  obtain ⟨hmem, -, -⟩ := h.maskBijective
  exact hmem k k.mem_all

theorem Config.Legal.exists_mask {v : Byte} (hv : v ∈ singleBitBytes) : ∃ k, c.mask k = v := by
  obtain ⟨-, -, hsurj⟩ := h.maskBijective
  obtain ⟨k, -, hk⟩ := hsurj v hv
  exact ⟨k, hk⟩

/-- The button whose default mask each button of a legal configuration carries. -/
theorem Config.Legal.exists_permutation : ∃ p : Equiv.Perm Button, ∀ k, c.mask k = defaultMask (p k) := by
  choose p hp using fun k => exists_defaultMask (h.mask_mem k)
  have hinj : Function.Injective p := fun k l hkl => h.mask_injective (by rw [← hp k, ← hp l, hkl])
  have hsurj : Function.Surjective p := by
    intro l
    obtain ⟨k, hk⟩ := h.exists_mask (defaultMask_mem l)
    exact ⟨k, defaultMask_injective (by rw [hp k, hk])⟩
  exact ⟨Equiv.ofBijective p ⟨hinj, hsurj⟩, fun k => (hp k).symm⟩

end

theorem Button.code_ne_zero (k : Button) : k.code ≠ 0 := by cases k <;> decide

/-- The default profile after any permutation of the buttons is a bijection onto the single-bit bytes. -/
theorem maskBijective_of_permutation {c : Config} {p : Equiv.Perm Button} (h : ∀ k, c.mask k = defaultMask (p k)) :
    c.MaskBijective := by
  refine ⟨fun k _ => ?_, fun k _ l _ hkl => ?_, fun v hv => ?_⟩
  · rw [h k]
    exact defaultMask_mem _
  · rw [h k, h l] at hkl
    exact p.injective (defaultMask_injective hkl)
  · obtain ⟨l, rfl⟩ := exists_defaultMask hv
    exact ⟨p.symm l, Button.mem_all _, by rw [h, Equiv.apply_symm_apply]⟩

theorem mgsds_legal : Config.mgsds.Legal := by
  refine ⟨by decide, by decide, by decide, by decide, by decide, rfl, ?_⟩
  exact maskBijective_of_permutation (p := Config.maskPermutation) fun _ => rfl

namespace Machine

/-- Settles O30: `DECODE` finds the one button whose mask the byte is; masks are exactly the single-bit bytes, and no
button's code is 0. -/
theorem decodeMatchesExactlyTheSingleBitBytes : Obligations.DecodeMatchesExactlyTheSingleBitBytes := by
  intro c h inv
  have hmatch : ∀ k : Button, c.mask k = inv → decodeInv c.mask inv = k.code := by
    rintro k rfl
    exact decodeInv_mask (fun _ _ => h.mask_injective) k
  refine ⟨hmatch, decodeInv_none, fun hne => ?_, fun hmem => ?_⟩
  · by_contra hnot
    exact hne (decodeInv_none fun k hk => hnot (hk ▸ h.mask_mem k))
  · obtain ⟨k, hk⟩ := h.exists_mask hmem
    rw [hmatch k hk]
    exact k.code_ne_zero

/-- Settles O31: each button's mask is some button's default mask, by a map that is one to one and onto. -/
theorem everyLegalMaskIsAPermutedProfile : Obligations.EveryLegalMaskIsAPermutedProfile :=
  fun _ h => h.exists_permutation

/-- Settles O32: the open mask table is a permuted default profile, so legal, and under a legal configuration `execIn`
is the operation's effect. -/
theorem thisHardwareIsALegalConfiguration : Obligations.ThisHardwareIsALegalConfiguration :=
  ⟨mgsds_legal, fun i s => by rw [execIn, if_pos mgsds_legal, exec_eq_effect]⟩

/-- Settles O33. -/
theorem illegalConfigurationIsRefused : Obligations.IllegalConfigurationIsRefused :=
  fun _ _ _ h => if_neg h

end Machine

end Sys2Proof
end

section
/-! SUPPORT. Selecting an operation, the draw, and the two events (30_encoding R59 to R62, R74, 60_exceptions R113). -/

namespace Sys2Proof

theorem Instr.wf_eq_true (i : Instr) : i.wf = true := by cases i <;> rfl

theorem spos_code_ofCode (v : BitVec 2) : (SPos.ofCode v).code = v := by revert v; decide

theorem encode_sposOp (p : SPos) : encode p.op = .spos p.code := by cases p <;> rfl

theorem encode_dstateOp (x : DState) : encode x.op = .dstate x.code := by cases x <;> rfl

/-- Exactly the operations of the seven named states are selected by a decoder state (30_encoding R60, R69). -/
theorem decode_dstate_ok_iff (v : StateCode) (i : Instr) :
    decode (.dstate v) = .ok i ↔ ∃ x : DState, v = x.code ∧ i = x.op := by
  constructor
  · intro h
    unfold decode decodeDstate at h
    cases hx : DState.ofCode v with
    | none => simp [hx] at h
    | some x => exact ⟨x, Machine.code_of_ofCode hx, by simpa [hx, eq_comm] using h⟩
  · rintro ⟨x, rfl, rfl⟩
    simp [decode, decodeDstate]

theorem encode_of_decodeEv : ∀ v : BitVec 2, ∀ i ∈ decodeEv v, encode i = .ev v := by decide

/-- A selector field that decodes to an operation is that operation's encoding. -/
theorem encode_of_decode {f : Selector} {i : Instr} (h : decode f = .ok i) : encode i = f := by
  cases f with
  | ev v =>
    unfold decode at h
    cases hv : decodeEv v with
    | none => simp [hv] at h
    | some j =>
      obtain rfl : j = i := by simpa [hv] using h
      exact encode_of_decodeEv v j hv
  | spos v =>
    obtain rfl : decodeSpos v = i := by simpa [decode] using h
    rw [decodeSpos, encode_sposOp, spos_code_ofCode]
  | dstate v =>
    obtain ⟨x, rfl, rfl⟩ := (decode_dstate_ok_iff v i).1 h
    exact encode_dstateOp x

namespace Machine

/-- The selected field always decodes, to the operation that the step performs (30_encoding R62). -/
theorem decode_selectorOf (s : State) : decode (selectorOf s) = .ok (fetch s) := by
  unfold selectorOf fetch
  cases h : decodeEv s.inp.ev with
  | some i => simp [decode, h]
  | none => rfl

/-- Settles O1. -/
theorem stepRunsSelectedOperation : Obligations.StepRunsSelectedOperation := by
  refine ⟨fun s => ⟨fetch s, decode_selectorOf s, Instr.wf_eq_true _⟩, fun s i hdecode _ => ?_⟩
  obtain rfl : fetch s = i := by simpa [decode_selectorOf] using hdecode
  rfl

/-- Settles O2: the three answers that `nextAnswer` chooses between. -/
theorem redrawChangesOnlyTheInputs : Obligations.RedrawChangesOnlyTheInputs := by
  refine fun t => ⟨rfl, fun hnone => ?_, fun r a hr ha => ?_, fun r hr ha => ?_⟩
  · simp [nextAnswer, hnone]
  · simp [nextAnswer, hr, ha]
  · simp [nextAnswer, hr, ha]

/-- Settles O3. -/
theorem selectorWordsDecodeAsListed : Obligations.SelectorWordsDecodeAsListed := by
  unfold Obligations.SelectorWordsDecodeAsListed
  decide

/-- Settles O4. -/
theorem decodeEncodeRoundTrip : Obligations.DecodeEncodeRoundTrip := by
  refine ⟨fun i _ => ?_, fun f i => encode_of_decode⟩
  cases i with
  | evRst tick => cases tick <;> rfl
  | _ => rfl

theorem fetch_of_rst {s : State} (h : s.inp.ev.getLsbD 1 = true) : ∃ tick, fetch s = .evRst tick := by
  obtain ⟨tick, -, hf⟩ | ⟨hn, -⟩ | ⟨hn, -⟩ := fetch_cases s
  · exact ⟨tick, hf⟩
  · rw [h] at hn; cases hn
  · rw [h] at hn; cases hn

/-- Settles O5: whatever the tick bit and the position, the step performs `EV_RST`. -/
theorem resetHasPriority : Obligations.ResetHasPriority := by
  intro s h
  obtain ⟨tick, hf⟩ := fetch_of_rst h
  rw [step_eq, hf]
  rfl

/-- Settles O6. -/
theorem resetWritesEveryRegister : Obligations.ResetWritesEveryRegister := fun _ _ => rfl

/-- Settles O7. -/
theorem resetStateHoldsListedValues : Obligations.ResetStateHoldsListedValues :=
  ⟨rfl, rfl, rfl, rfl, rfl, rfl, rfl, rfl, rfl, rfl, rfl, rfl⟩

theorem tickArrives_of_not_pending {s : State} (h : s.tickPend = false) :
    tickArrives s = { s with tickPend := true } := by
  simp [tickArrives, h]

theorem tickArrives_of_pending {s : State} (h : s.tickPend = true) : tickArrives s = s.raise .ovr := by
  simp [tickArrives, h]

theorem acceptTick_of_pending {s : State} (h : s.tickPend = true) :
    acceptTick s = { s with tickPend := false, spos := .slot0 } := by
  simp [acceptTick, h]

theorem acceptTick_of_not_pending {s : State} (h : s.tickPend = false) : acceptTick s = s := by
  simp [acceptTick, h]

/-- Settles O8. -/
theorem tickSetsPending : Obligations.TickSetsPending :=
  fun _ h => congrArg Host.Outcome.next (tickArrives_of_not_pending h)

/-- Settles O9. -/
theorem secondPendingTickOverruns : Obligations.SecondPendingTickOverruns := by
  refine fun s h => ⟨s.raise .ovr, congrArg Host.Outcome.next (tickArrives_of_pending h), rfl, ?_, fun i hi => ?_⟩
  · rw [raise_ovr_getLsbD]; simp
  · rw [raise_ovr_getLsbD]; simp [hi]

/-- Settles O10. -/
theorem idleAcceptsPendingTick : Obligations.IdleAcceptsPendingTick :=
  fun _ h => congrArg Host.Outcome.next (acceptTick_of_pending h)

/-- Settles O11. -/
theorem idleHoldsWithoutTick : Obligations.IdleHoldsWithoutTick :=
  fun _ h => congrArg Host.Outcome.next (acceptTick_of_not_pending h)

end Machine

end Sys2Proof
end

section
/-! SUPPORT. The scheduler's slot operations, one outcome at a time (41_scheduler R96 to R102). -/

namespace Sys2Proof.Machine

/-- Settles O12: a decoder state that decodes to an operation is a named one, and the visit's decoder step is that
operation's. -/
theorem dueSlotZeroPerformsSelectedDecoderOperation : Obligations.DueSlotZeroPerformsSelectedDecoderOperation := by
  intro s i hdue hdecode
  obtain ⟨x, hx, rfl⟩ := (decode_dstate_ok_iff _ _).1 hdecode
  refine ⟨storeDstate (namedStep Config.mgsds x s), ?_, ?_⟩
  · rw [exec_eq_effect, effect_decoderOp]
  · rw [exec_eq_effect, effect, visitSlot_slot0_named ((due_mgsds_iff .slot0 s).2 hdue) hx]
    rfl

/-- Settles O13. -/
theorem reservedDecoderStateRaisesBadst : Obligations.ReservedDecoderStateRaisesBadst := by
  intro s hdue h7
  refine ⟨_, exec_eq_effect .sSlot0 s, ?_⟩
  rw [effect, visitSlot_slot0_due ((due_mgsds_iff .slot0 s).2 hdue), decoderStep_reserved _ _ h7]
  refine ⟨?_, ?_, fun i hi => ?_⟩
  · have hrec : s.task0 = ⟨7, 1⟩ := by rw [← hdue, ← h7]
    simp only [State.raise, hrec]
  · rw [raise_badst_getLsbD]; simp
  · rw [raise_badst_getLsbD]; simp [hi]

/-- Settles O14. -/
theorem slotZeroNotDueOnlyCounts : Obligations.SlotZeroNotDueOnlyCounts :=
  fun s h => congrArg Host.Outcome.next (visitSlot_slot0_not_due ((due_mgsds_eq_false_iff .slot0 s).2 h))

/-- Settles O15. -/
theorem slotOneStoresTheAnswerOrHoldsOrCounts : Obligations.SlotOneStoresTheAnswerOrHoldsOrCounts := by
  have hk : Slot.slot1 ≠ .slot0 := by decide
  refine ⟨fun s a hdue ha => ?_, fun s hdue ha => ?_, fun s hne => ?_⟩ <;> refine congrArg Host.Outcome.next ?_
  · exact visitSlot_answered hk ((due_mgsds_iff .slot1 s).2 hdue) ha
  · exact visitSlot_held hk ((due_mgsds_iff .slot1 s).2 hdue) ha
  · exact visitSlot_of_not_due ((due_mgsds_eq_false_iff .slot1 s).2 hne)

/-- The visit of a slot writes no `TICK_PEND` (10_state R40). -/
theorem visitSlot_tickPend (c : Config) (k : Slot) (s : State) : (visitSlot c k s).tickPend = s.tickPend := by
  rcases eq_or_ne k .slot0 with rfl | hk
  · cases h : s.due c .slot0 with
    | false => rw [visitSlot_slot0_not_due h]
    | true => rw [visitSlot_slot0_due h, decoderStep_frame]
  · obtain ⟨r, p, i, h⟩ := visitSlot_external_frame c s hk
    rw [h]
    exact setTask_tickPend s k r

/-- Settles O16: slot 2's outcomes, and `S_IDLE` after the round has ended with a tick held. -/
theorem slotTwoStoresTheAnswerOrHoldsOrCounts : Obligations.SlotTwoStoresTheAnswerOrHoldsOrCounts := by
  have hk : Slot.slot2 ≠ .slot0 := by decide
  refine ⟨fun s a hdue ha => ?_, fun s hdue ha => ?_, fun s hne => ?_, fun s t hpend hst _ => ?_⟩
  · exact congrArg Host.Outcome.next (visitSlot_answered hk ((due_mgsds_iff .slot2 s).2 hdue) ha)
  · exact congrArg Host.Outcome.next (visitSlot_held hk ((due_mgsds_iff .slot2 s).2 hdue) ha)
  · exact congrArg Host.Outcome.next (visitSlot_of_not_due ((due_mgsds_eq_false_iff .slot2 s).2 hne))
  · obtain rfl : visitSlot Config.mgsds .slot2 s = t := by cases hst; rfl
    exact idleAcceptsPendingTick _ (by rw [visitSlot_tickPend, hpend])

end Sys2Proof.Machine
end

section
/-! SUPPORT. The seven decoder operations, one edge at a time (40_decoder R79 to R85). -/

namespace Sys2Proof.Machine

/-- A decoder operation, once it is known which edge the counters select. -/
theorem exec_decoderOp {x x' : DState} {s : State} (h : nextDState Config.mgsds x s.wcnt s.bcnt = x') :
    exec x.op s = .next (storeDstate (alongEdge Config.mgsds x x' s)) := by
  rw [exec_eq_effect, effect_decoderOp, namedStep, h]

/-- Settles O18. -/
theorem startGoesToInit : Obligations.StartGoesToInit := fun _ => exec_decoderOp (x := .start) rfl

/-- Settles O19. -/
theorem initGoesToWaitA : Obligations.InitGoesToWaitA := fun _ => exec_decoderOp (x := .init) rfl

/-- Settles O20. -/
theorem waitAStays : Obligations.WaitAStays :=
  fun _ h => exec_decoderOp (x := .waitA) (x' := .waitA) (by rw [nextDState_waitA, if_neg (by omega)])

/-- Settles O21. -/
theorem waitALeaves : Obligations.WaitALeaves :=
  fun _ h => exec_decoderOp (x := .waitA) (x' := .readFirst) (by rw [nextDState_waitA, if_pos h])

/-- Settles O22. -/
theorem readFirstStartsTheClock : Obligations.ReadFirstStartsTheClock :=
  fun _ => exec_decoderOp (x := .readFirst) rfl

/-- Settles O23. -/
theorem waitBStays : Obligations.WaitBStays :=
  fun _ h => exec_decoderOp (x := .waitB) (x' := .waitB) (by rw [nextDState_waitB, if_neg (by omega)])

/-- Settles O24: the edge that samples, with the shift written in fields. -/
theorem waitBSamples : Obligations.WaitBSamples := by
  intro s h
  rw [← shiftIn_eq_append]
  exact exec_decoderOp (x := .waitB) (x' := .waitC) (by rw [nextDState_waitB, if_pos h])

/-- Settles O25. -/
theorem waitCStays : Obligations.WaitCStays :=
  fun _ h => exec_decoderOp (x := .waitC) (x' := .waitC) (by rw [nextDState_waitC, if_neg (by omega)])

/-- Settles O26. -/
theorem waitCClocksTheNextBit : Obligations.WaitCClocksTheNextBit :=
  fun _ hw hb => exec_decoderOp (x := .waitC) (x' := .waitB) (by rw [nextDState_waitC, if_pos hw, if_neg hb])

/-- Settles O27: the edge to `FINAL` publishes `DECODE` of the inverted `ACC`. -/
theorem waitCPublishesInFinal : Obligations.WaitCPublishesInFinal := by
  intro s hw hb
  refine ⟨_, exec_decoderOp (x := .waitC) (x' := .final) (by rw [nextDState_waitC, if_pos hw, if_pos hb]), rfl, ?_⟩
  have hicode : (storeDstate (alongEdge Config.mgsds .waitC .final s)).icode =
      decodeInv Config.mgsds.mask (~~~s.acc) := by
    simp [alongEdge_icode]
  rw [hicode]
  refine ⟨fun k hk => ?_, decodeInv_none⟩
  rw [← hk]
  exact decodeInv_mask (fun _ _ => mgsds_legal.mask_injective) k

/-- Settles O28. -/
theorem finalGoesToInit : Obligations.FinalGoesToInit := fun _ => exec_decoderOp (x := .final) rfl

end Sys2Proof.Machine
end

section
/-! SUPPORT. What a step can write, register by register: `FSTAT`, `ICODE`, the task records, the output lines (10_state R40,
40_decoder R77, R88, 60_exceptions R110 to R113). -/

namespace Sys2Proof.Machine

/-! ### The decoder step, over every `DSTATE` -/

/-- A decoder state code is the reserved one or that of a named state (30_encoding R60). -/
theorem dstate_cases (v : StateCode) : v = 7 ∨ ∃ x : DState, v = x.code := by
  cases h : DState.ofCode v with
  | none => exact .inl ((ofCode_eq_none_iff v).1 h)
  | some x => exact .inr ⟨x, code_of_ofCode h⟩

theorem code_ne_seven (x : DState) : x.code ≠ 7 := by cases x <;> decide

/-- The decoder step raises `BADST` on the reserved code and leaves `FSTAT` alone otherwise (40_decoder R86, R92). -/
theorem decoderStep_fstat (c : Config) (s : State) :
    (decoderStep c s).1.fstat = if s.dstate = 7 then s.fstat ||| faultBit .badst else s.fstat := by
  obtain h | ⟨x, h⟩ := dstate_cases s.dstate
  · rw [decoderStep_reserved c s h, if_pos h, raise_fstat]
  · rw [decoderStep_of_named c h, if_neg (h ▸ code_ne_seven x)]
    exact alongEdge_fstat ..

/-- The decoder step writes `ICODE` only from `WAIT_C` into `FINAL` (40_decoder R88). -/
theorem decoderStep_icode (c : Config) (s : State) :
    (decoderStep c s).1.icode = s.icode ∨
    (s.dstate = 5 ∧ (decoderStep c s).2 = 6 ∧
      (decoderStep c s).1.icode = decodeInv c.mask (~~~(decoderStep c s).1.acc)) := by
  obtain h | ⟨x, h⟩ := dstate_cases s.dstate
  · exact .inl (by rw [decoderStep_reserved c s h, raise_icode])
  · rw [decoderStep_of_named c h, namedStep, alongEdge_icode, alongEdge_snd]
    split
    · next hfinal =>
      obtain rfl := waitC_of_nextDState_final hfinal
      exact .inr ⟨h, by rw [hfinal]; rfl, rfl⟩
    · exact .inl rfl

/-! ### The visit of a slot -/

/-- The visit of a slot writes no other slot's record (10_state R40). -/
theorem task_visitSlot_of_ne (c : Config) {j k : Slot} (s : State) (h : j ≠ k) :
    (visitSlot c k s).task j = s.task j := by
  rcases eq_or_ne k .slot0 with rfl | hk
  · cases hdue : s.due c .slot0 with
    | false =>
      rw [visitSlot_slot0_not_due hdue]
      cases j <;> [exact absurd rfl h; rfl; rfl]
    | true =>
      rw [visitSlot_slot0_due hdue, decoderStep_frame]
      cases j <;> [exact absurd rfl h; rfl; rfl]
  · obtain ⟨r, p, i, hv⟩ := visitSlot_external_frame c s hk
    rw [hv]
    exact task_setTask_of_ne s r h

@[simp] theorem visitSlot_slot0_spos (c : Config) (s : State) : (visitSlot c .slot0 s).spos = .slot1 := by
  cases h : s.due c .slot0 with
  | false => rw [visitSlot_slot0_not_due h]
  | true => rw [visitSlot_slot0_due h]

theorem visitSlot_external_icode (c : Config) {k : Slot} (s : State) (hk : k ≠ .slot0) :
    (visitSlot c k s).icode = s.icode := by
  obtain ⟨r, p, i, h⟩ := visitSlot_external_frame c s hk
  rw [h]
  exact setTask_icode s k r

theorem visitSlot_external_fstat (c : Config) {k : Slot} (s : State) (hk : k ≠ .slot0) :
    (visitSlot c k s).fstat = s.fstat := by
  obtain ⟨r, p, i, h⟩ := visitSlot_external_frame c s hk
  rw [h]
  exact setTask_fstat s k r

/-! ### `FSTAT` -/

/-- Who writes `FSTAT`, and what (60_exceptions R110, R113). -/
theorem effect_fstat_cases (i : Instr) (s : State) :
    (effect Config.mgsds i s).fstat = s.fstat ∨
    (∃ tick, i = .evRst tick) ∨
    (i = .evTick ∧ s.tickPend = true ∧ (effect Config.mgsds i s).fstat = s.fstat ||| 0x01) ∨
    (i = .sSlot0 ∧ s.task0.elapsed = 1 ∧ s.dstate = 7 ∧ (effect Config.mgsds i s).fstat = s.fstat ||| 0x02) := by
  have hdecoder : ∀ x : DState, (effect Config.mgsds x.op s).fstat = s.fstat := fun x => by
    rw [effect_decoderOp]
    exact alongEdge_fstat ..
  cases i with
  | evRst tick => exact .inr (.inl ⟨tick, rfl⟩)
  | evTick =>
    cases h : s.tickPend with
    | false => exact .inl (by rw [effect, tickArrives_of_not_pending h])
    | true => exact .inr (.inr (.inl ⟨rfl, rfl, by rw [effect, tickArrives_of_pending h]; rfl⟩))
  | sIdle => exact .inl (by rw [effect, acceptTick]; split <;> rfl)
  | sSlot0 =>
    rw [effect]
    cases hdue : s.due Config.mgsds .slot0 with
    | false => exact .inl (by rw [visitSlot_slot0_not_due hdue])
    | true =>
      rw [visitSlot_slot0_due hdue, decoderStep_fstat]
      split
      · next h7 => exact .inr (.inr (.inr ⟨rfl, (due_mgsds_iff .slot0 s).1 hdue, h7, rfl⟩))
      · exact .inl rfl
  | sSlot1 => exact .inl (visitSlot_external_fstat _ s (by decide))
  | sSlot2 => exact .inl (visitSlot_external_fstat _ s (by decide))
  | dStart => exact .inl (hdecoder .start)
  | dInit => exact .inl (hdecoder .init)
  | dWaitA => exact .inl (hdecoder .waitA)
  | dReadFirst => exact .inl (hdecoder .readFirst)
  | dWaitB => exact .inl (hdecoder .waitB)
  | dWaitC => exact .inl (hdecoder .waitC)
  | dFinal => exact .inl (hdecoder .final)

/-- The next state of an operation and of a step, as equations. -/
theorem eq_of_exec {i : Instr} {s t : State} (h : exec i s = .next t) : t = effect Config.mgsds i s := by
  rw [exec_eq_effect] at h
  cases h; rfl

theorem eq_of_step {s t : State} (h : step s = .next t) : t = (effect Config.mgsds (fetch s) s).redraw := by
  rw [step_eq] at h
  cases h; rfl

theorem not_evRst_of_no_rst {s : State} (h : s.inp.ev.getLsbD 1 = false) (tick : Bool) : fetch s ≠ .evRst tick := by
  obtain ⟨_, hr, -⟩ | ⟨-, -, hf⟩ | ⟨-, -, hf⟩ := fetch_cases s
  · rw [h] at hr; cases hr
  · rw [hf]; nofun
  · rw [hf]
    cases s.spos <;> nofun

/-- Settles O34. -/
theorem everyStepAnswersANextState : Obligations.EveryStepAnswersANextState := fun s => ⟨_, step_eq s⟩

/-- Settles O37: without a reset `FSTAT` is kept or a bit is joined to it. -/
theorem faultBitsStayUntilReset : Obligations.FaultBitsStayUntilReset := by
  intro s t hst hrst i hi
  rw [eq_of_step hst, redraw_fstat]
  obtain h | ⟨tick, h⟩ | ⟨-, -, h⟩ | ⟨-, -, -, h⟩ := effect_fstat_cases (fetch s) s
  · rwa [h]
  · exact absurd h (not_evRst_of_no_rst hrst tick)
  · rw [h, BitVec.getLsbD_or, hi, Bool.true_or]
  · rw [h, BitVec.getLsbD_or, hi, Bool.true_or]

/-- Settles O38. -/
theorem onlyListedOperationsTouchFaultStatus : Obligations.OnlyListedOperationsTouchFaultStatus := by
  intro i s t hst hne
  obtain rfl := eq_of_exec hst
  exact (effect_fstat_cases i s).resolve_left hne

/-! ### `ICODE` -/

/-- Settles O39: of the operations a step selects only `S_SLOT0` and the reset write `ICODE`, and `S_SLOT0` does so as
its decoder step does. -/
theorem icodeChangesOnlyOnEnteringFinal : Obligations.IcodeChangesOnlyOnEnteringFinal := by
  intro s t hst hne
  obtain rfl := eq_of_step hst
  obtain ⟨tick, hrst, -⟩ | ⟨-, -, hf⟩ | ⟨-, -, hf⟩ := fetch_cases s
  · exact .inl hrst
  · rw [hf] at hne
    exact absurd (by rw [redraw_icode, effect, tickArrives]; split <;> rfl) hne
  · rw [hf] at hne ⊢
    cases hp : s.spos with
    | idle =>
      rw [hp] at hne
      exact absurd (by rw [redraw_icode, SPos.op, effect, acceptTick]; split <;> rfl) hne
    | slot0 =>
      rw [hp] at hne
      rw [redraw_icode, SPos.op, effect] at hne
      cases hdue : s.due Config.mgsds .slot0 with
      | false => exact absurd (by rw [visitSlot_slot0_not_due hdue]) hne
      | true =>
        rw [visitSlot_slot0_due hdue] at hne
        obtain ⟨hx, hx', hi⟩ := (decoderStep_icode Config.mgsds s).resolve_left hne
        rw [SPos.op, effect, visitSlot_slot0_due hdue]
        exact .inr ⟨rfl, hx, hx', hi⟩
    | slot1 =>
      rw [hp] at hne
      exact absurd (visitSlot_external_icode _ s (by decide)) hne
    | slot2 =>
      rw [hp] at hne
      exact absurd (visitSlot_external_icode _ s (by decide)) hne

end Sys2Proof.Machine
end

section
/-! SUPPORT. The order of the slots within a round, what a held slot waits for, and what the slots may see of each other
(41_scheduler R95 to R108, 20_memory R53, R54). -/

namespace Sys2Proof.Machine

/-! ### Writers of the registers -/

/-- The operation that visits a slot (30_encoding R61). -/
def visitOp : Slot → Instr
  | .slot0 => .sSlot0
  | .slot1 => .sSlot1
  | .slot2 => .sSlot2

/-- A tick that arrives writes `TICK_PEND` and `FSTAT` only (41_scheduler R94). -/
theorem tickArrives_frame (s : State) :
    tickArrives s = { s with tickPend := (tickArrives s).tickPend, fstat := (tickArrives s).fstat } := by
  unfold tickArrives
  split <;> rfl

/-- `S_IDLE` writes `TICK_PEND` and the position only (41_scheduler R95). -/
theorem acceptTick_frame (s : State) :
    acceptTick s = { s with tickPend := (acceptTick s).tickPend, spos := (acceptTick s).spos } := by
  unfold acceptTick
  split <;> rfl

/-- An external slot's record is written by its own slot's operation and by reset only (10_state R40). -/
theorem task_effect_of_not_writer (c : Config) {i : Instr} {k : Slot} (s : State) (hk : k ≠ .slot0)
    (hrst : ∀ tick, i ≠ .evRst tick) (hown : i ≠ visitOp k) : (effect c i s).task k = s.task k := by
  have hdecoder : ∀ x : DState, (effect c x.op s).task k = s.task k := fun x => by
    rw [effect_decoderOp]
    cases k with
    | slot0 => exact absurd rfl hk
    | slot1 => exact alongEdge_task1 ..
    | slot2 => exact alongEdge_task2 ..
  cases i with
  | evRst tick => exact absurd rfl (hrst tick)
  | evTick => rw [effect, tickArrives_frame]; cases k <;> rfl
  | sIdle => rw [effect, acceptTick_frame]; cases k <;> rfl
  | sSlot0 => exact task_visitSlot_of_ne c s hk
  | sSlot1 => exact task_visitSlot_of_ne c s fun h => hown (h ▸ rfl)
  | sSlot2 => exact task_visitSlot_of_ne c s fun h => hown (h ▸ rfl)
  | dStart => exact hdecoder .start
  | dInit => exact hdecoder .init
  | dWaitA => exact hdecoder .waitA
  | dReadFirst => exact hdecoder .readFirst
  | dWaitB => exact hdecoder .waitB
  | dWaitC => exact hdecoder .waitC
  | dFinal => exact hdecoder .final

/-- Settles O40: the frames of the four operations that are no slot 0's, and the writers of the external records. -/
theorem registersChangeOnlyByTheirWriters : Obligations.RegistersChangeOnlyByTheirWriters := by
  intro i s t hst
  obtain rfl := eq_of_exec hst
  have hwriter : ∀ k : Slot, k ≠ .slot0 → (effect Config.mgsds i s).task k ≠ s.task k →
      i = visitOp k ∨ ∃ tick, i = .evRst tick := by
    intro k hk hne
    by_contra! hnot
    obtain ⟨hown, hrst⟩ := hnot
    exact hne (task_effect_of_not_writer _ s hk hrst hown)
  refine ⟨?_, hwriter .slot1 (by decide), hwriter .slot2 (by decide)⟩
  rintro (rfl | rfl | rfl | rfl)
  · rw [effect, tickArrives_frame]
    exact ⟨rfl, rfl, rfl, rfl, rfl, rfl, rfl⟩
  · rw [effect, acceptTick_frame]
    exact ⟨rfl, rfl, rfl, rfl, rfl, rfl, rfl⟩
  · obtain ⟨r, p, x, h⟩ := visitSlot_external_frame Config.mgsds (k := .slot1) s (by decide)
    rw [effect, h]
    exact ⟨rfl, rfl, rfl, rfl, rfl, rfl, rfl⟩
  · obtain ⟨r, p, x, h⟩ := visitSlot_external_frame Config.mgsds (k := .slot2) s (by decide)
    rw [effect, h]
    exact ⟨rfl, rfl, rfl, rfl, rfl, rfl, rfl⟩

/-- `LATCH` is driven high in `INIT` and `WAIT_A` and `CLK` in `WAIT_B`, read off the codes (40_decoder R77). -/
theorem lines_iff_code (x : DState) :
    ((x == .init || x == .waitA) = true ↔ x.code = 1 ∨ x.code = 2) ∧ ((x == .waitB) = true ↔ x.code = 4) := by
  cases x <;> decide

/-- Settles O41: a due slot 0 in a named state steps along an edge, and the lines are driven by the edge's end. -/
theorem outputLinesFollowTheDecoderState : Obligations.OutputLinesFollowTheDecoderState := by
  intro s t hdue h7 hst
  obtain rfl := eq_of_exec hst
  obtain ⟨x, hx⟩ := (dstate_cases s.dstate).resolve_left h7
  rw [effect, visitSlot_slot0_named ((due_mgsds_iff .slot0 s).2 hdue) hx, namedStep]
  exact lines_iff_code _

/-! ### The order of the visits -/

/-- `EV_TICK` is performed on the event vector `01` alone (30_encoding R62). -/
theorem ev_of_fetch_tick {s : State} (h : fetch s = .evTick) : s.inp.ev = 0b01 := by
  obtain ⟨tick, -, hf⟩ | ⟨h1, h0, -⟩ | ⟨-, -, hf⟩ := fetch_cases s
  · rw [hf] at h; cases h
  · revert h1 h0; generalize s.inp.ev = v; revert v; decide
  · rw [hf] at h
    cases hp : s.spos <;> rw [hp] at h <;> cases h

theorem fetch_tick {s : State} (h : s.inp.ev = 0b01) : fetch s = .evTick := by
  simp [fetch, decodeEv, h]

/-- The outcomes of an external slot's visit, as position and record (41_scheduler R98, R99, R102). -/
theorem visitSlot_external_outcome (s : State) {k : Slot} {p : SPos} (hk : k ≠ .slot0) (hp : s.spos = p) :
    if (s.task k).elapsed = 1 then
      match s.inp.ans with
      | some a => (visitSlot Config.mgsds k s).spos = posAfter k ∧ (visitSlot Config.mgsds k s).task k = ⟨a, 1⟩
      | none => (visitSlot Config.mgsds k s).spos = p ∧ (visitSlot Config.mgsds k s).task k = s.task k
    else (visitSlot Config.mgsds k s).spos = posAfter k ∧
      (visitSlot Config.mgsds k s).task k = ⟨(s.task k).state, (s.task k).elapsed + 1⟩ := by
  split
  · next hdue =>
    have hd := (due_mgsds_iff k s).2 hdue
    cases ha : s.inp.ans with
    | some a =>
      rw [visitSlot_answered hk hd ha]
      exact ⟨rfl, task_setTask_self s k _⟩
    | none =>
      rw [visitSlot_held hk hd ha]
      exact ⟨hp, rfl⟩
  · next hne =>
    rw [visitSlot_of_not_due ((due_mgsds_eq_false_iff k s).2 hne)]
    exact ⟨rfl, task_setTask_self s k _⟩

/-- Settles O42: an event vector of a tick performs `EV_TICK`, one of no event the operation of the position, whose
outcomes are those of the slot's visit. -/
theorem slotsAreVisitedInRegistrationOrder : Obligations.SlotsAreVisitedInRegistrationOrder := by
  refine ⟨fun s t hev hst => ?tick, fun s t hev hst => ?block⟩
  case tick =>
    obtain rfl := eq_of_step hst
    rw [fetch_tick hev, effect, tickArrives_frame]
    exact ⟨rfl, rfl, rfl, rfl⟩
  case block =>
    obtain rfl := eq_of_step hst
    rw [fetch_no_event hev]
    cases hp : s.spos with
    | idle =>
      rw [SPos.op, effect, acceptTick_frame]
      refine ⟨rfl, rfl, rfl, ?_⟩
      cases hpend : s.tickPend with
      | true => rw [acceptTick_of_pending hpend]; rfl
      | false => rw [acceptTick_of_not_pending hpend]; exact hp
    | slot0 =>
      refine ⟨visitSlot_slot0_spos _ s, task_visitSlot_of_ne _ (j := .slot1) s (by decide),
        task_visitSlot_of_ne _ (j := .slot2) s (by decide), ?_⟩
      rw [SPos.op, effect]
      split
      · next hdue => rw [visitSlot_slot0_due ((due_mgsds_iff .slot0 s).2 hdue)]; rfl
      · next hne => rw [visitSlot_slot0_not_due ((due_mgsds_eq_false_iff .slot0 s).2 hne)]; rfl
    | slot1 =>
      exact ⟨task_visitSlot_of_ne _ (j := .slot0) s (by decide), task_visitSlot_of_ne _ (j := .slot2) s (by decide),
        visitSlot_external_outcome s (k := .slot1) (by decide) hp⟩
    | slot2 =>
      exact ⟨task_visitSlot_of_ne _ (j := .slot0) s (by decide), task_visitSlot_of_ne _ (j := .slot1) s (by decide),
        visitSlot_external_outcome s (k := .slot2) (by decide) hp⟩

/-- A step without a reset performs `EV_TICK` or the operation of the position. -/
theorem fetch_of_no_rst {s : State} (h : s.inp.ev.getLsbD 1 = false) :
    (s.inp.ev = 0b01 ∧ fetch s = .evTick) ∨ (s.inp.ev = 0b00 ∧ fetch s = s.spos.op) := by
  have hev : s.inp.ev = 0b01 ∨ s.inp.ev = 0b00 := by
    revert h; generalize s.inp.ev = v; revert v; decide
  exact hev.imp (fun h => ⟨h, fetch_tick h⟩) (fun h => ⟨h, fetch_no_event h⟩)

/-- Settles O43. -/
theorem heldSlotWaitsForAnswerOrReset : Obligations.HeldSlotWaitsForAnswerOrReset := by
  intro s t hslot hans hrst hst
  obtain rfl := eq_of_step hst
  have hheld : effect Config.mgsds s.spos.op s = s := by
    obtain ⟨hp, hdue⟩ | ⟨hp, hdue⟩ := hslot <;> rw [hp]
    · exact visitSlot_held (by decide) ((due_mgsds_iff .slot1 s).2 hdue) hans
    · exact visitSlot_held (by decide) ((due_mgsds_iff .slot2 s).2 hdue) hans
  obtain ⟨-, hf⟩ | ⟨-, hf⟩ := fetch_of_no_rst hrst <;> rw [hf]
  · rw [effect, tickArrives_frame]
    refine ⟨rfl, ?_⟩
    cases hpend : s.tickPend with
    | true => rw [tickArrives_of_pending hpend]; exact .inr rfl
    | false => rw [tickArrives_of_not_pending hpend]; exact .inl rfl
  · rw [hheld]
    exact ⟨rfl, .inl rfl⟩

/-- Settles O44: in a state that meets the invariant `BADST` is out of reach, and a reset ends unfaulted. -/
theorem onlyAnOverrunFaultsAReachableState : Obligations.OnlyAnOverrunFaultsAReachableState := by
  intro s t hinv hok hst hfault
  obtain rfl := eq_of_step hst
  have hzero : s.fstat = 0 := not_not.1 hok
  have hne : (effect Config.mgsds (fetch s) s).fstat ≠ s.fstat := hzero ▸ hfault
  obtain ⟨tick, h⟩ | ⟨hop, hpend, -⟩ | ⟨-, -, h7, -⟩ := (effect_fstat_cases (fetch s) s).resolve_left hne
  · rw [h] at hfault
    exact absurd rfl hfault
  · exact ⟨ev_of_fetch_tick hop, hpend⟩
  · obtain ⟨hd, -⟩ := hinv
    obtain ⟨x, hx⟩ := dstate_named_of_decoderInv hd
    exact absurd (hx ▸ h7) (code_ne_seven x)

/-- Settles O45. -/
theorem hostReadPortShowsTheRegisters : Obligations.HostReadPortShowsTheRegisters := by
  have hline : ∀ b : Bool, ((BitVec.ofBool b).zeroExtend 8 = 1 ↔ b = true) ∧
      ((BitVec.ofBool b).zeroExtend 8 = 0 ↔ b = false) := by decide
  intro s
  obtain ⟨hl1, hl0⟩ := hline s.latch
  obtain ⟨hc1, hc0⟩ := hline s.clk
  exact ⟨rfl, rfl, hl1, hl0, hc1, hc0⟩

/-! ### What the slots see of each other -/

theorem extRequest_mgsds_eq_some_iff (s : State) (r : ExtRequest) : extRequest Config.mgsds s = some r ↔
    s.spos = .slot1 ∧ s.task1.elapsed = 1 ∧ r = ⟨.slot1, s.task1.state, s.icode⟩ ∨
    s.spos = .slot2 ∧ s.task2.elapsed = 1 ∧ r = ⟨.slot2, s.task2.state, s.icode⟩ := by
  rw [extRequest_eq_some_iff, due_mgsds_iff, due_mgsds_iff]
  rfl

/-- Settles O46. -/
theorem laterSlotsSeeTheSameTickIcode : Obligations.LaterSlotsSeeTheSameTickIcode := by
  refine ⟨extRequest_mgsds_eq_some_iff, fun s t hst => ?_⟩
  have hpos : t.spos = .slot1 := by rw [eq_of_exec hst]; exact visitSlot_slot0_spos ..
  refine ⟨fun hdue => ?_, fun hne => ?_, fun x u hu => ?_⟩
  · exact (extRequest_mgsds_eq_some_iff _ _).2 (.inl ⟨hpos, hdue, rfl⟩)
  · refine Option.eq_none_iff_forall_ne_some.2 fun r hr => ?_
    obtain ⟨-, hdue, -⟩ | ⟨hp, -, -⟩ := (extRequest_mgsds_eq_some_iff _ _).1 hr
    · exact hne hdue
    · rw [hpos] at hp; cases hp
  · have hicode : u.icode = t.icode := by
      rw [eq_of_exec hu]
      exact visitSlot_external_icode _ _ (by decide)
    refine ⟨hicode, fun hp hdue => ?_, fun r hr => ?_⟩
    · rw [← hicode]
      exact (extRequest_mgsds_eq_some_iff _ _).2 (.inr ⟨hp, hdue, rfl⟩)
    · rw [extRequest_icode hr, hicode]

/-- Settles O47. -/
theorem decoderIsIndependentOfExternalTasks : Obligations.DecoderIsIndependentOfExternalTasks := by
  intro s t r1 r2 hst
  obtain rfl := eq_of_exec hst
  rw [exec_eq_effect, effect, effect]
  cases hdue : s.due Config.mgsds .slot0 with
  | false =>
    rw [visitSlot_slot0_not_due hdue, visitSlot_slot0_not_due (s := { s with task1 := r1, task2 := r2 }) hdue]
  | true =>
    have hstep := decoderStep_update Config.mgsds s s.task0.elapsed r1 r2 s.spos s.tickPend s.inp s.draws rfl
    rw [visitSlot_slot0_due hdue, visitSlot_slot0_due (s := { s with task1 := r1, task2 := r2 }) hdue, hstep,
      decoderStep_frame]

end Sys2Proof.Machine
end

section
/-! SUPPORT. Rounds (41_scheduler R103 to R107): what one does to each slot's counter, and the laws over many of them. -/

namespace Sys2Proof.Machine

/-! ### `DISPATCH(k)` with a step that has returned -/

section
variable {c : Config} {k : Slot} {s : State} (f : State → State × StateCode)

theorem dispatchDone_due (h : s.due c k = true) : dispatchDone c k f s = (f s).1.setTask k ⟨(f s).2, 1⟩ := by
  rw [dispatchDone, dispatch_due h rfl, ← bumpElapsed_storeResult]

theorem dispatchDone_not_due (h : s.due c k = false) :
    dispatchDone c k f s = s.setTask k ⟨(s.task k).state, (s.task k).elapsed + 1⟩ := by
  rw [dispatchDone, dispatch_not_due _ h]
  rfl

/-- The dispatched slot's counter starts at 1 after a step and counts otherwise (41_scheduler R96). -/
theorem elapsed_dispatchDone_self :
    ((dispatchDone c k f s).task k).elapsed =
      if (s.task k).elapsed = c.period k then 1 else (s.task k).elapsed + 1 := by
  split
  · next h => rw [dispatchDone_due f ((due_iff c k s).2 h), task_setTask_self]
  · next h => rw [dispatchDone_not_due f ((due_eq_false_iff c k s).2 h), task_setTask_self]

theorem task_dispatchDone_of_ne {j : Slot} (hf : (f s).1.task j = s.task j) (h : j ≠ k) :
    (dispatchDone c k f s).task j = s.task j := by
  cases hdue : s.due c k with
  | false => rw [dispatchDone_not_due f hdue, task_setTask_of_ne _ _ h]
  | true => rw [dispatchDone_due f hdue, task_setTask_of_ne _ _ h, hf]

end

/-- The decoder step writes no task record (10_state R40). -/
theorem task_decoderStep (c : Config) (s : State) (j : Slot) : (decoderStep c s).1.task j = s.task j := by
  rw [decoderStep_frame]
  cases j <;> rfl

/-! ### One round -/

/-- The decoder's part of a round (41_scheduler R105). -/
def decoderPart (c : Config) (d : Bool) (s : State) : State :=
  dispatchDone c .slot0 (fun t => decoderStep c (t.withData d)) s

theorem task_decoderPart_of_ne (c : Config) (d : Bool) (s : State) {j : Slot} (h : j ≠ .slot0) :
    (decoderPart c d s).task j = s.task j := by
  refine task_dispatchDone_of_ne _ ?_ h
  rw [task_decoderStep]
  cases j <;> rfl

theorem roundOnce_eq (c : Config) (e : RoundEnv) (s : State) : roundOnce c e s =
    dispatchDone c .slot2 (fun t => (t, e.ans2)) (dispatchDone c .slot1 (fun t => (t, e.ans1)) (decoderPart c e.data s)) :=
  rfl

/-- One round starts each due slot's counter at 1 and counts each other one on (41_scheduler R96, R105). -/
theorem elapsed_roundOnce (c : Config) (e : RoundEnv) (s : State) (k : Slot) :
    ((roundOnce c e s).task k).elapsed =
      if (s.task k).elapsed = c.period k then 1 else (s.task k).elapsed + 1 := by
  rw [roundOnce_eq]
  cases k with
  | slot0 =>
    rw [task_dispatchDone_of_ne _ rfl (by decide), task_dispatchDone_of_ne _ rfl (by decide)]
    exact elapsed_dispatchDone_self _
  | slot1 =>
    rw [task_dispatchDone_of_ne _ rfl (by decide), elapsed_dispatchDone_self,
      task_decoderPart_of_ne _ _ _ (by decide)]
  | slot2 =>
    rw [elapsed_dispatchDone_self, task_dispatchDone_of_ne _ rfl (by decide),
      task_decoderPart_of_ne _ _ _ (by decide)]

/-! ### The counters over many rounds -/

theorem period_pos_of_legal {c : Config} (h : c.Legal) (k : Slot) : 0 < (c.period k).toNat := by
  obtain ⟨-, hp, -⟩ := h
  have hne : (c.period k).toNat ≠ (0 : Byte).toNat := fun h0 => hp k k.mem_all (BitVec.eq_of_toNat_eq h0)
  exact Nat.pos_of_ne_zero hne

theorem due_iff_toNat (c : Config) (k : Slot) (s : State) :
    s.due c k = true ↔ (s.task k).elapsed.toNat = (c.period k).toNat := by
  rw [due_iff, BitVec.toNat_inj]

/-- The counter of a round as a number, modulo 256. -/
theorem elapsed_toNat_roundOnce (c : Config) (e : RoundEnv) (s : State) (k : Slot) :
    ((roundOnce c e s).task k).elapsed.toNat =
      if (s.task k).elapsed.toNat = (c.period k).toNat then 1 else ((s.task k).elapsed.toNat + 1) % 256 := by
  rw [elapsed_roundOnce]
  split
  · next h => rw [if_pos (congrArg BitVec.toNat h)]; rfl
  · next h => rw [if_neg (mt BitVec.eq_of_toNat_eq h)]; rfl

/-- The counter that runs P, 1, 2, ..., P - 1, P, ... (41_scheduler R103). -/
def periodCounter (P n : Nat) : Nat := if n % P = 0 then P else n % P

theorem periodCounter_eq_iff {P : Nat} (hP : 0 < P) (n : Nat) : periodCounter P n = P ↔ P ∣ n := by
  have hlt := Nat.mod_lt n hP
  rw [Nat.dvd_iff_mod_eq_zero, periodCounter]
  split <;> omega

theorem periodCounter_le {P : Nat} (hP : 0 < P) (n : Nat) : periodCounter P n ≤ P := by
  have hlt := Nat.mod_lt n hP
  rw [periodCounter]
  split <;> omega

theorem periodCounter_succ {P : Nat} (hP : 0 < P) (n : Nat) :
    periodCounter P (n + 1) = if periodCounter P n = P then 1 else periodCounter P n + 1 := by
  have hlt := Nat.mod_lt n hP
  have hsucc : (n + 1) % P = if n % P + 1 = P then 0 else n % P + 1 := by
    rw [← Nat.mod_add_mod]
    split
    · next h => rw [h, Nat.mod_self]
    · exact Nat.mod_eq_of_lt (by omega)
  unfold periodCounter
  rw [hsucc]
  by_cases hwrap : n % P + 1 = P
  · rw [if_pos hwrap, if_pos rfl]
    split_ifs <;> omega
  · rw [if_neg hwrap, if_neg (Nat.succ_ne_zero _)]
    split_ifs <;> omega

theorem elapsed_rounds_of_due {c : Config} (hc : c.Legal) (env : Nat → RoundEnv) {s : State} {k : Slot}
    (h : (s.task k).elapsed = c.period k) (n : Nat) :
    ((rounds c env n s).task k).elapsed.toNat = periodCounter (c.period k).toNat n := by
  have hP := period_pos_of_legal hc k
  induction n with
  | zero => simp [rounds, periodCounter, h]
  | succ n ih =>
    have hle := periodCounter_le hP n
    have hlt := (c.period k).isLt
    rw [rounds, elapsed_toNat_roundOnce, ih, periodCounter_succ hP]
    split
    · rfl
    · omega

/-- Settles O49. -/
theorem slotStepsOncePerPeriod : Obligations.SlotStepsOncePerPeriod := by
  intro c env s k n hc h
  have he := elapsed_rounds_of_due hc env h n
  exact ⟨he, by rw [due_iff_toNat, he, periodCounter_eq_iff (period_pos_of_legal hc k)]⟩

/-- Settles O50: `ELAPSED` 1 is due, and a due slot's round leaves 1 again. -/
theorem eachSlotStepsOncePerTick : Obligations.EachSlotStepsOncePerTick := by
  intro env s N h k
  have hone : ∀ n, ((rounds Config.mgsds env n s).task k).elapsed = 1 := by
    intro n
    induction n with
    | zero => exact h k
    | succ n ih =>
      rw [rounds, elapsed_roundOnce]
      exact if_pos ih
  rw [List.filter_eq_self.2 fun n _ => (due_mgsds_iff _ _).2 (hone n), List.length_range]

/-- Settles O51: until the named round the counter is the start value plus the rounds, modulo 256, and meets the period at
that round first. -/
theorem counterAbovePeriodWrapsBeforeStepping : Obligations.CounterAbovePeriodWrapsBeforeStepping := by
  intro c env s k n hc habove hn
  have hlt := (s.task k).elapsed.isLt
  have hcount : ∀ m, m ≤ 256 - (s.task k).elapsed.toNat + (c.period k).toNat →
      ((rounds c env m s).task k).elapsed.toNat = ((s.task k).elapsed.toNat + m) % 256 := by
    intro m
    induction m with
    | zero => intro _; exact (Nat.mod_eq_of_lt hlt).symm
    | succ m ih =>
      intro hm
      rw [rounds, elapsed_toNat_roundOnce, ih (by omega), if_neg (by omega)]
      omega
  rw [due_iff_toNat, hcount n hn]
  omega

end Sys2Proof.Machine
end

section
/-! SUPPORT. The four block steps of one round against `ROUND()` (41_scheduler R105), and the stimulus script over them
(30_encoding R72, R73). -/

namespace Sys2Proof.Machine

/-! ### The decoder's part, as a block step and in `ROUND()` -/

/-- `S_SLOT0` is the decoder's part of `ROUND()` under the same data level, but for the position; the position, the
pending tick and the inputs are read by neither. -/
theorem visitSlot_slot0_eq_decoderPart (c : Config) (s : State) (p : SPos) (b : Bool) (i : Inputs) :
    visitSlot c .slot0 { s with spos := p, tickPend := b, inp := i } =
      { decoderPart c i.data s with spos := .slot1, tickPend := b, inp := i } := by
  cases hdue : s.due c .slot0 with
  | false =>
    rw [visitSlot_slot0_not_due (s := { s with spos := p, tickPend := b, inp := i }) hdue, decoderPart,
      dispatchDone_not_due _ hdue]
    rfl
  | true =>
    have hstep := decoderStep_update c (s.withData i.data) s.task0.elapsed s.task1 s.task2 p b i s.draws rfl
    rw [visitSlot_slot0_due (s := { s with spos := p, tickPend := b, inp := i }) hdue, decoderPart,
      dispatchDone_due _ hdue, decoderStep_frame c (s.withData i.data)]
    exact congrArg (fun r : State × StateCode => { r.1 with task0 := ⟨r.2, 1⟩, spos := SPos.slot1 }) hstep

theorem decoderPart_frame (c : Config) (d : Bool) (s : State) :
    (decoderPart c d s).spos = s.spos ∧ (decoderPart c d s).tickPend = s.tickPend := by
  cases hdue : s.due c .slot0 with
  | false =>
    rw [decoderPart, dispatchDone_not_due _ hdue]
    exact ⟨rfl, rfl⟩
  | true =>
    rw [decoderPart, dispatchDone_due _ hdue, decoderStep_frame]
    exact ⟨rfl, rfl⟩

theorem due_decoderPart (c : Config) (d : Bool) (s : State) {k : Slot} (h : k ≠ .slot0) :
    (decoderPart c d s).due c k = s.due c k := by
  rw [State.due, task_decoderPart_of_ne c d s h, State.due]

/-- `ROUND()` with slots 1 and 2 due: the decoder's part and the two answers stored. -/
theorem roundOnce_of_due {c : Config} {e : RoundEnv} {s : State} (h1 : s.due c .slot1 = true)
    (h2 : s.due c .slot2 = true) :
    roundOnce c e s = { decoderPart c e.data s with task1 := ⟨e.ans1, 1⟩, task2 := ⟨e.ans2, 1⟩ } := by
  have h1' : (decoderPart c e.data s).due c .slot1 = true := by rw [due_decoderPart c _ s (by decide), h1]
  have h2' : (decoderPart c e.data s).due c .slot2 = true := by rw [due_decoderPart c _ s (by decide), h2]
  rw [roundOnce_eq, dispatchDone_due _ h1', dispatchDone_due]
  · rfl
  · exact h2'

/-! ### The four block steps -/

/-- One block step of a round: no event, the round's data level, and what stands on the step port. -/
def blockStep (c : Config) (d : Bool) (a : Option StateCode) (s : State) : State :=
  effect c (fetch (s.feed d a)) (s.feed d a)

theorem blockStep_eq (c : Config) (d : Bool) (a : Option StateCode) (s : State) :
    blockStep c d a s = effect c s.spos.op (s.feed d a) := by
  rw [blockStep, fetch_no_event rfl, feed_spos]

theorem eq_blockStep_of_exec {d : Bool} {a : Option StateCode} {s t : State}
    (h : exec (fetch (s.feed d a)) (s.feed d a) = .next t) : t = blockStep Config.mgsds d a s :=
  eq_of_exec h

/-- The block about to dispatch slot 0 of the round that starts from `s`. -/
def beforeSlot0 (d : Bool) (a : Option StateCode) (s : State) : State :=
  { s with spos := .slot0, tickPend := false, inp := ⟨0b00, d, a⟩ }

/-- The block after slot 0 of that round. -/
def afterSlot0 (c : Config) (d : Bool) (a : Option StateCode) (s : State) : State :=
  { decoderPart c d s with spos := .slot1, tickPend := false, inp := ⟨0b00, d, a⟩ }

/-- The block after slot 1 of that round, its answer taken. -/
def afterSlot1 (c : Config) (d : Bool) (a1 : StateCode) (s : State) : State :=
  { decoderPart c d s with task1 := ⟨a1, 1⟩, spos := .slot2, tickPend := false, inp := ⟨0b00, d, none⟩ }

/-- The block after slot 2 of that round, both answers taken. -/
def afterSlot2 (c : Config) (d : Bool) (a1 a2 : StateCode) (s : State) : State :=
  { decoderPart c d s with
    task1 := ⟨a1, 1⟩, task2 := ⟨a2, 1⟩, spos := .idle, tickPend := false, inp := ⟨0b00, d, none⟩ }

section
variable {c : Config} {s : State} (d : Bool)

theorem blockStep_pending (a : Option StateCode) (hidle : s.spos = .idle) (hpend : s.tickPend = true) :
    blockStep c d a s = beforeSlot0 d a s := by
  rw [blockStep_eq, hidle]
  exact acceptTick_of_pending hpend

theorem blockStep_beforeSlot0 (a b : Option StateCode) :
    blockStep c d b (beforeSlot0 d a s) = afterSlot0 c d b s := by
  rw [blockStep_eq]
  exact visitSlot_slot0_eq_decoderPart c s .slot0 false ⟨0b00, d, b⟩

theorem blockStep_afterSlot0 (b : Option StateCode) (a1 : StateCode) (h1 : s.due c .slot1 = true) :
    blockStep c d (some a1) (afterSlot0 c d b s) = afterSlot1 c d a1 s := by
  have hdue : ((afterSlot0 c d b s).feed d (some a1)).due c .slot1 = true :=
    (due_decoderPart c d s (by decide)).trans h1
  rw [blockStep_eq]
  exact visitSlot_slot1_due hdue rfl

theorem blockStep_afterSlot1 (a1 a2 : StateCode) (h2 : s.due c .slot2 = true) :
    blockStep c d (some a2) (afterSlot1 c d a1 s) = afterSlot2 c d a1 a2 s := by
  have hdue : ((afterSlot1 c d a1 s).feed d (some a2)).due c .slot2 = true :=
    (due_decoderPart c d s (by decide)).trans h2
  rw [blockStep_eq]
  exact visitSlot_slot2_due hdue rfl

/-- The block after the round holds the registers of `ROUND()`. -/
theorem afterSlot2_eq_roundOnce (a1 a2 : StateCode) (i : Inputs) (hidle : s.spos = .idle) (hpend : s.tickPend = false)
    (h1 : s.due c .slot1 = true) (h2 : s.due c .slot2 = true) :
    ({ afterSlot2 c d a1 a2 s with inp := i } : State) = { roundOnce c ⟨d, a1, a2⟩ s with inp := i } := by
  obtain ⟨hp, ht⟩ := decoderPart_frame c d s
  rw [roundOnce_of_due h1 h2]
  simp only [afterSlot2, hp, ht, hidle, hpend]

end

/-- Settles O48: the four block steps, one after the other, over the state without the pending tick. -/
theorem fourBlockStepsMakeOneRound : Obligations.FourBlockStepsMakeOneRound := by
  intro e s s1 s2 s3 s4 hidle hpend h1 h2 hs1 hs2 hs3 hs4
  have hd1 : ({ s with tickPend := false } : State).due Config.mgsds .slot1 = true := (due_mgsds_iff .slot1 s).2 h1
  have hd2 : ({ s with tickPend := false } : State).due Config.mgsds .slot2 = true := (due_mgsds_iff .slot2 s).2 h2
  have e1 : s1 = beforeSlot0 e.data none { s with tickPend := false } := by
    rw [eq_blockStep_of_exec hs1, blockStep_pending _ _ hidle hpend]
    rfl
  have e2 : s2 = afterSlot0 Config.mgsds e.data none { s with tickPend := false } := by
    rw [eq_blockStep_of_exec hs2, e1, blockStep_beforeSlot0]
  have e3 : s3 = afterSlot1 Config.mgsds e.data e.ans1 { s with tickPend := false } := by
    rw [eq_blockStep_of_exec hs3, e2, blockStep_afterSlot0 _ _ _ hd1]
  have e4 : s4 = afterSlot2 Config.mgsds e.data e.ans1 e.ans2 { s with tickPend := false } := by
    rw [eq_blockStep_of_exec hs4, e3, blockStep_afterSlot1 _ _ _ hd2]
  rw [e4]
  exact ⟨rfl, rfl, afterSlot2_eq_roundOnce e.data e.ans1 e.ans2 s.inp hidle rfl hd1 hd2⟩

/-! ### One tick of a stimulus script -/

/-- What the stub of slot 1 answers in the round that starts from `s`. -/
def stubAnswer1 (c : Config) (d : Bool) (stub : StubId) (s : State) : StateCode :=
  stubAnswer stub ⟨.slot1, s.task1.state, (decoderPart c d s).icode⟩

/-- What the stub of slot 2 answers in the round that starts from `s`. -/
def stubAnswer2 (c : Config) (d : Bool) (stub : StubId) (s : State) : StateCode :=
  stubAnswer stub ⟨.slot2, s.task2.state, (decoderPart c d s).icode⟩

section
variable {c : Config} {s : State} (d : Bool) (stub1 stub2 : StubId)

/-- The stub of slot 1 sees the record of slot 1 as the round found it and the `ICODE` slot 0 left (41_scheduler R108). -/
theorem answer_afterSlot0 (b : Option StateCode) (h1 : s.due c .slot1 = true) :
    Bench.answer c ⟨stub1, stub2, afterSlot0 c d b s⟩ = some (stubAnswer1 c d stub1 s) := by
  have hdue : (afterSlot0 c d b s).due c .slot1 = true := (due_decoderPart c d s (by decide)).trans h1
  have hreq := (extRequest_eq_some_iff c (afterSlot0 c d b s) _).2 (.inl ⟨rfl, hdue, rfl⟩)
  have hrec : (afterSlot0 c d b s).task1 = s.task1 := task_decoderPart_of_ne c d s (j := .slot1) (by decide)
  simp only [Bench.answer, hreq, hrec]
  rfl

theorem answer_afterSlot1 (a1 : StateCode) (h2 : s.due c .slot2 = true) :
    Bench.answer c ⟨stub1, stub2, afterSlot1 c d a1 s⟩ = some (stubAnswer2 c d stub2 s) := by
  have hdue : (afterSlot1 c d a1 s).due c .slot2 = true := (due_decoderPart c d s (by decide)).trans h2
  have hreq := (extRequest_eq_some_iff c (afterSlot1 c d a1 s) _).2 (.inr ⟨rfl, hdue, rfl⟩)
  have hrec : (afterSlot1 c d a1 s).task2 = s.task2 := task_decoderPart_of_ne c d s (j := .slot2) (by decide)
  simp only [Bench.answer, hreq, hrec]
  rfl

theorem clock_tick (hpend : s.tickPend = false) :
    ∃ i, Bench.clock c 0b01 d ⟨stub1, stub2, s⟩ = ⟨stub1, stub2, { s with tickPend := true, inp := i }⟩ := by
  refine ⟨⟨0b01, d, Bench.answer c ⟨stub1, stub2, s⟩⟩, ?_⟩
  simp only [Bench.clock]
  rw [fetch_tick rfl, effect, tickArrives_of_not_pending]
  exact hpend

/-- A clock without an event is one block step, answered by the stubs. -/
theorem clock_no_event : Bench.clock c 0b00 d ⟨stub1, stub2, s⟩ =
    ⟨stub1, stub2, blockStep c d (Bench.answer c ⟨stub1, stub2, s⟩) s⟩ := rfl

theorem clock_pending (hidle : s.spos = .idle) (hpend : s.tickPend = true) :
    ∃ a, Bench.clock c 0b00 d ⟨stub1, stub2, s⟩ = ⟨stub1, stub2, beforeSlot0 d a s⟩ :=
  ⟨_, congrArg (Bench.mk stub1 stub2) (blockStep_pending d _ hidle hpend)⟩

theorem clock_beforeSlot0 (a : Option StateCode) :
    ∃ b, Bench.clock c 0b00 d ⟨stub1, stub2, beforeSlot0 d a s⟩ = ⟨stub1, stub2, afterSlot0 c d b s⟩ :=
  ⟨_, congrArg (Bench.mk stub1 stub2) (blockStep_beforeSlot0 d a _)⟩

theorem clock_afterSlot0 (b : Option StateCode) (h1 : s.due c .slot1 = true) :
    Bench.clock c 0b00 d ⟨stub1, stub2, afterSlot0 c d b s⟩ =
      ⟨stub1, stub2, afterSlot1 c d (stubAnswer1 c d stub1 s) s⟩ := by
  rw [clock_no_event, answer_afterSlot0 d stub1 stub2 b h1, blockStep_afterSlot0 d b _ h1]

theorem clock_afterSlot1 (a1 : StateCode) (h2 : s.due c .slot2 = true) :
    Bench.clock c 0b00 d ⟨stub1, stub2, afterSlot1 c d a1 s⟩ =
      ⟨stub1, stub2, afterSlot2 c d a1 (stubAnswer2 c d stub2 s) s⟩ := by
  rw [clock_no_event, answer_afterSlot1 d stub1 stub2 a1 h2, blockStep_afterSlot1 d a1 _ h2]

/-- One tick of a script: `EV_TICK` and the four block steps of its round. -/
theorem tick_eq (hidle : s.spos = .idle) (hpend : s.tickPend = false) (h1 : s.due c .slot1 = true)
    (h2 : s.due c .slot2 = true) :
    Bench.tick c d ⟨stub1, stub2, s⟩ =
      ⟨stub1, stub2, afterSlot2 c d (stubAnswer1 c d stub1 s) (stubAnswer2 c d stub2 s) s⟩ := by
  obtain ⟨i, htick⟩ := clock_tick (c := c) d stub1 stub2 hpend
  obtain ⟨a, hidleStep⟩ :=
    clock_pending (c := c) (s := { s with tickPend := true, inp := i }) d stub1 stub2 hidle rfl
  obtain ⟨b, hslot0⟩ := clock_beforeSlot0 (c := c) (s := s) d stub1 stub2 a
  have hbefore : beforeSlot0 d a { s with tickPend := true, inp := i } = beforeSlot0 d a s := rfl
  rw [Bench.tick, htick, hidleStep, hbefore, hslot0, clock_afterSlot0 d stub1 stub2 b h1,
    clock_afterSlot1 d stub1 stub2 _ h2]

end

/-- A stub's answer: the state passed, or the low bits of `ICODE` (30_encoding R72). -/
theorem stubAnswer_eq_ite (stub : StubId) (k : Slot) (v : StateCode) (icode : Byte) :
    stubAnswer stub ⟨k, v, icode⟩ = if stub = .keep then v else icode.extractLsb' 0 3 := by
  cases stub <;> rfl

/-- Settles O59: the tick is the four block steps of a round, answered by the stubs. -/
theorem stimulusTickIsOneRound : Obligations.StimulusTickIsOneRound := by
  intro d ⟨stub1, stub2, s⟩ hidle hpend h1 h2 t
  have hd1 : s.due Config.mgsds .slot1 = true := (due_mgsds_iff .slot1 s).2 h1
  have hd2 : s.due Config.mgsds .slot2 = true := (due_mgsds_iff .slot2 s).2 h2
  have ht : t = afterSlot2 Config.mgsds d (stubAnswer1 Config.mgsds d stub1 s) (stubAnswer2 Config.mgsds d stub2 s) s :=
    congrArg Bench.dut (tick_eq d stub1 stub2 hidle hpend hd1 hd2)
  rw [ht]
  exact ⟨rfl, rfl, stubAnswer_eq_ite .., stubAnswer_eq_ite ..,
    afterSlot2_eq_roundOnce d _ _ s.inp hidle hpend hd1 hd2⟩

end Sys2Proof.Machine
end

section
/-! SUPPORT. The words of a stimulus script (30_encoding R73), read and written field by field. -/

namespace Sys2Proof

/-- A stimulus word is its two head bits and its 14 low bits. -/
theorem stimWord_eq_append (w : BitVec 16) :
    w = BitVec.ofBool (w.getLsbD 15) ++ BitVec.ofBool (w.getLsbD 14) ++ w.extractLsb' 0 14 := by
  refine BitVec.eq_of_getLsbD_eq fun i hi => ?_
  rw [BitVec.getLsbD_append, BitVec.getLsbD_append, BitVec.getLsbD_extractLsb', BitVec.getLsbD_ofBool,
    BitVec.getLsbD_ofBool]
  obtain hlow | rfl | rfl : i < 14 ∨ i = 14 ∨ i = 15 := by omega
  · simp [hlow]
  · simp
  · simp

/-- The 14 low bits of a `STUB` word are the slot and the stub id. -/
theorem stimWord_low_eq_append (w : BitVec 16) :
    w.extractLsb' 0 14 = w.extractLsb' 12 2 ++ w.extractLsb' 0 12 := by
  refine BitVec.eq_of_getLsbD_eq fun i hi => ?_
  rw [BitVec.getLsbD_append, BitVec.getLsbD_extractLsb', BitVec.getLsbD_extractLsb', BitVec.getLsbD_extractLsb']
  split
  · next h => simp [h, hi]
  · next h => simp [hi, show i - 12 < 2 by omega, show 12 + (i - 12) = i by omega]

section
variable (a b : Bool) (v : BitVec 14)

theorem stimWord_bit15 : (BitVec.ofBool a ++ BitVec.ofBool b ++ v).getLsbD 15 = a := by
  rw [BitVec.getLsbD_append, BitVec.getLsbD_append]
  simp

theorem stimWord_bit14 : (BitVec.ofBool a ++ BitVec.ofBool b ++ v).getLsbD 14 = b := by
  rw [BitVec.getLsbD_append, BitVec.getLsbD_append]
  simp

theorem stimWord_low : (BitVec.ofBool a ++ BitVec.ofBool b ++ v).extractLsb' 0 14 = v := by
  refine BitVec.eq_of_getLsbD_eq fun i hi => ?_
  rw [BitVec.getLsbD_extractLsb', BitVec.getLsbD_append]
  simp [hi]

end

theorem decodeStim_encodeStim_ticks {n : Nat} (d : Bool) (h1 : 1 ≤ n) (h2 : n ≤ 16383) :
    decodeStim (encodeStim (.ticks n d)) = .ok (.ticks n d) := by
  have hn : (BitVec.ofNat 14 n).toNat = n := by
    rw [BitVec.toNat_ofNat]
    exact Nat.mod_eq_of_lt (by omega)
  have hword : encodeStim (.ticks n d) = BitVec.ofBool false ++ BitVec.ofBool d ++ BitVec.ofNat 14 n := rfl
  rw [hword, decodeStim, if_pos (stimWord_bit15 ..), stimWord_low, stimWord_bit14, hn, if_neg (by omega)]

theorem decodeStim_encodeStim_stub : ∀ k ∈ [1, 2], ∀ id ∈ [StubId.keep, .echo],
    decodeStim (encodeStim (.stub k id)) = .ok (.stub k id) := by decide

/-- A word that is read as a statement, by the kinds of R73: what the statement and the word's fields then are. -/
theorem decodeStim_ok_cases {w : BitVec 16} {st : Stim} (h : decodeStim w = .ok st) :
    (w.getLsbD 15 = false ∧ (w.extractLsb' 0 14).toNat ≠ 0 ∧
      st = .ticks (w.extractLsb' 0 14).toNat (w.getLsbD 14)) ∨
    (w.getLsbD 15 = true ∧ w.getLsbD 14 = false ∧ w.extractLsb' 0 14 = 0 ∧ st = .rst) ∨
    (w.getLsbD 15 = true ∧ w.getLsbD 14 = true ∧ (w.extractLsb' 12 2 = 1 ∨ w.extractLsb' 12 2 = 2) ∧
      ∃ id : StubId, w.extractLsb' 0 12 = id.code ∧ st = .stub (w.extractLsb' 12 2).toNat id) := by
  unfold decodeStim at h
  cases h15 : w.getLsbD 15 with
  | false =>
    rw [if_pos h15] at h
    split at h <;> cases h
    next hn => exact .inl ⟨rfl, hn, rfl⟩
  | true =>
    rw [if_neg (by simp [h15])] at h
    cases h14 : w.getLsbD 14 with
    | false =>
      rw [if_pos h14] at h
      split at h <;> cases h
      next hz => exact .inr (.inl ⟨rfl, rfl, hz, rfl⟩)
    | true =>
      rw [if_neg (by simp [h14])] at h
      split at h
      · next hk =>
        split at h
        · next hid => cases h; exact .inr (.inr ⟨rfl, rfl, hk, .keep, hid, rfl⟩)
        · split at h <;> cases h
          next hid => exact .inr (.inr ⟨rfl, rfl, hk, .echo, hid, rfl⟩)
      · cases h

namespace Machine

/-- Settles O58: the writer's fields read back, and, of a word that is read, the fields that were not read are fixed. -/
theorem stimulusWordsRoundTrip : Obligations.StimulusWordsRoundTrip := by
  refine ⟨fun st hwf => ?readBack, fun w st h => ?written⟩
  case readBack =>
    cases st with
    | rst => rfl
    | ticks n d =>
      obtain ⟨h1, h2⟩ : 1 ≤ n ∧ n ≤ 16383 := by simpa [Stim.wf] using hwf
      exact decodeStim_encodeStim_ticks d h1 h2
    | stub k id =>
      have hk : k ∈ [1, 2] := by simpa [Stim.wf] using hwf
      exact decodeStim_encodeStim_stub k hk id (by cases id <;> decide)
  case written =>
    have hw := stimWord_eq_append w
    obtain ⟨h15, hn, rfl⟩ | ⟨h15, h14, hlow, rfl⟩ | ⟨h15, h14, hk, id, hid, rfl⟩ := decodeStim_ok_cases h
    · have hlt := (w.extractLsb' 0 14).isLt
      refine ⟨by simp only [Stim.wf, Bool.and_eq_true, decide_eq_true_eq]; omega, ?_⟩
      rw [h15] at hw
      rw [encodeStim, BitVec.ofNat_toNat, BitVec.setWidth_eq]
      exact hw.symm
    · rw [h15, h14, hlow] at hw
      exact ⟨rfl, hw.symm⟩
    · rw [h15, h14, stimWord_low_eq_append, hid] at hw
      refine ⟨by obtain hk | hk := hk <;> rw [hk] <;> rfl, ?_⟩
      rw [encodeStim, BitVec.ofNat_toNat, BitVec.setWidth_eq]
      exact BitVec.append_assoc.trans hw.symm

end Machine

end Sys2Proof
end

section
/-! SUPPORT. Runs of decoder steps (40_decoder R76, R87, R88): the wait states' dwells and the 53-step read cycle. -/

namespace Sys2Proof.Machine

/-! ### One decoder step of a run -/

section
variable {c : Config} {d : Bool} {s : State} {x x' : DState} (hx : s.dstate = x.code)
  (hn : nextDState c x s.wcnt s.bcnt = x')
include hx hn

theorem decoderTick_of_edge : decoderTick c d s = storeDstate (alongEdge c x x' (s.withData d)) := by
  rw [decoderTick, decoderStep_of_named c (s := s.withData d) hx, namedStep, withData_wcnt, withData_bcnt, hn]

theorem decoderTick_dstate : (decoderTick c d s).dstate = x'.code := by
  rw [decoderTick_of_edge hx hn, State.dstate, storeDstate_task0, alongEdge_snd]

theorem decoderTick_wcnt :
    (decoderTick c d s).wcnt = (if x' = x then s.wcnt else 0) + (if waits x' then 1 else 0) := by
  rw [decoderTick_of_edge hx hn, storeDstate_wcnt, alongEdge_wcnt, withData_wcnt]

theorem decoderTick_bcnt :
    (decoderTick c d s).bcnt = if x' = .init then 0 else if Samples x x' then s.bcnt + 1 else s.bcnt := by
  rw [decoderTick_of_edge hx hn, storeDstate_bcnt, alongEdge_bcnt, withData_bcnt]

theorem decoderTick_acc :
    (decoderTick c d s).acc = if x' = .init then 0 else if Samples x x' then shiftIn s.acc d else s.acc := by
  rw [decoderTick_of_edge hx hn, storeDstate_acc, alongEdge_acc, withData_acc, withData_inp]

theorem decoderTick_icode : (decoderTick c d s).icode =
    if x' = .final then decodeInv c.mask (~~~(decoderTick c d s).acc) else s.icode := by
  rw [decoderTick_of_edge hx hn, storeDstate_icode, storeDstate_acc, alongEdge_icode, withData_icode]

theorem decoderTick_fstat : (decoderTick c d s).fstat = s.fstat := by
  rw [decoderTick_of_edge hx hn, storeDstate_fstat, alongEdge_fstat, withData_fstat]

end

/-! ### The dwell of a wait state -/

/-- The wait states and their dwells (40_decoder R81, R83, R84). -/
abbrev IsDwell (c : Config) (x : DState) (T : Byte) : Prop :=
  x = .waitA ∧ T = c.tLatch ∨ x = .waitB ∧ T = c.tSettle ∨ x = .waitC ∧ T = c.tPost

theorem waits_of_isDwell {c : Config} {x : DState} {T : Byte} (h : IsDwell c x T) : waits x = true := by
  obtain ⟨rfl, -⟩ | ⟨rfl, -⟩ | ⟨rfl, -⟩ := h <;> rfl

/-- A wait state is left exactly when `WCNT` has reached its dwell (40_decoder R76). -/
theorem nextDState_eq_self_iff {c : Config} {x : DState} {T : Byte} (h : IsDwell c x T) (w : Byte) (b : BitCount) :
    nextDState c x w b = x ↔ w.toNat < T.toNat := by
  obtain ⟨rfl, rfl⟩ | ⟨rfl, rfl⟩ | ⟨rfl, rfl⟩ := h
  · cases hw : c.tLatch.ule w <;> simp_all [nextDState, BitVec.ule]
  · cases hw : c.tSettle.ule w <;> simp_all [nextDState, BitVec.ule]
  · cases hw : c.tPost.ule w
    · simp_all [nextDState, BitVec.ule]
    · rw [nextDState, if_pos hw]
      cases hb : b == c.nBits <;> simp_all [BitVec.ule]

theorem dwell_pos_of_legal {c : Config} (hc : c.Legal) {x : DState} {T : Byte} (h : IsDwell c x T) :
    0 < T.toNat := by
  obtain ⟨-, -, hA, hB, hC, -⟩ := hc
  have hT : T ≠ 0 := by
    obtain ⟨-, rfl⟩ | ⟨-, rfl⟩ | ⟨-, rfl⟩ := h <;> assumption
  exact Nat.pos_of_ne_zero fun h0 => hT (BitVec.eq_of_toNat_eq h0)

/-- While fewer than `T_x` steps have passed the wait state is kept and `WCNT` counts them. -/
theorem decoderTicks_within_dwell {c : Config} (data : Nat → Bool) {s : State} {x : DState} {T : Byte}
    (h : IsDwell c x T) (hx : s.dstate = x.code) (hw : s.wcnt = 1) (j : Nat) (hj : j < T.toNat) :
    (decoderTicks c data j s).dstate = x.code ∧ (decoderTicks c data j s).wcnt.toNat = 1 + j := by
  induction j with
  | zero => exact ⟨hx, by rw [decoderTicks, hw]; rfl⟩
  | succ j ih =>
    obtain ⟨hd, hcount⟩ := ih (by omega)
    have hn := (nextDState_eq_self_iff h _ (decoderTicks c data j s).bcnt).2 (hcount.trans_lt (by omega))
    have hlt := T.isLt
    refine ⟨decoderTick_dstate hd hn, ?_⟩
    rw [decoderTicks, decoderTick_wcnt hd hn, if_pos rfl, if_pos (waits_of_isDwell h), BitVec.toNat_add, hcount]
    show (1 + j + 1) % 256 = 1 + (j + 1)
    omega

/-- Settles O52. -/
theorem waitStatesLastExactlyTheirDwell : Obligations.WaitStatesLastExactlyTheirDwell := by
  intro c data s x T hc h hx hw
  refine ⟨decoderTicks_within_dwell data h hx hw, fun hstay => ?_⟩
  have hpos := dwell_pos_of_legal hc h
  obtain ⟨j, hj⟩ : ∃ j, T.toNat = j + 1 := ⟨T.toNat - 1, by omega⟩
  obtain ⟨hd, hcount⟩ := decoderTicks_within_dwell data h hx hw j (by omega)
  rw [hj, decoderTicks, decoderTick_dstate hd rfl] at hstay
  have hlt := (nextDState_eq_self_iff h _ _).1 (code_injective hstay)
  omega

end Sys2Proof.Machine
end

section
/-! SUPPORT. The read cycle (40_decoder R87, R88, 20_memory R48): where every decoder register stands at each offset from the
`INIT` tick. -/

namespace Sys2Proof.Machine

/-! ### The schedule -/

/-- `WCNT` at an offset of the read cycle: it starts with each state and counts in a wait state (40_decoder R76). -/
def wcntAt : Nat → Byte
  | 0 => 0
  | o + 1 =>
    (if scheduleAt Config.mgsds (o + 1) = scheduleAt Config.mgsds o then wcntAt o else 0) +
      (if waits (scheduleAt Config.mgsds (o + 1)) then 1 else 0)

/-- `BCNT` at an offset of the read cycle: one sample at every sixth step (40_decoder R87). -/
def bcntAt (o : Nat) : BitCount := BitVec.ofNat 4 (o / 6)

/-- The schedule's edges are those the counters select. -/
theorem nextDState_schedule : ∀ o < 52,
    nextDState Config.mgsds (scheduleAt Config.mgsds o) (wcntAt o) (bcntAt o) = scheduleAt Config.mgsds (o + 1) := by
  decide

theorem nextDState_schedule_last :
    nextDState Config.mgsds (scheduleAt Config.mgsds 52) (wcntAt 52) (bcntAt 52) = .init := by decide

theorem schedule_ne_init : ∀ o < 52, scheduleAt Config.mgsds (o + 1) ≠ .init := by decide

/-- The schedule samples on the steps whose number 6 divides (40_decoder R87). -/
theorem samples_schedule_iff : ∀ o < 52,
    (Samples (scheduleAt Config.mgsds o) (scheduleAt Config.mgsds (o + 1)) ↔ 6 ∣ o + 1) := by decide

theorem schedule_eq_final_iff : ∀ o < 52, (scheduleAt Config.mgsds (o + 1) = .final ↔ o = 51) := by decide

theorem bcntAt_succ : ∀ o < 52, (if 6 ∣ o + 1 then bcntAt o + 1 else bcntAt o) = bcntAt (o + 1) := by decide

/-- The decoder stands at an offset of the read cycle. -/
structure AtOffset (o : Nat) (s : State) : Prop where
  dstate : s.dstate = (scheduleAt Config.mgsds o).code
  wcnt : s.wcnt = wcntAt o
  bcnt : s.bcnt = bcntAt o

section
variable {o : Nat} {s : State} (h : AtOffset o s) (ho : o < 52) (d : Bool)
include h ho

theorem AtOffset.edge :
    nextDState Config.mgsds (scheduleAt Config.mgsds o) s.wcnt s.bcnt = scheduleAt Config.mgsds (o + 1) := by
  rw [h.wcnt, h.bcnt, nextDState_schedule o ho]

theorem AtOffset.succ : AtOffset (o + 1) (decoderTick Config.mgsds d s) where
  dstate := decoderTick_dstate h.dstate (h.edge ho)
  wcnt := by rw [decoderTick_wcnt h.dstate (h.edge ho), h.wcnt, wcntAt]
  bcnt := by
    rw [decoderTick_bcnt h.dstate (h.edge ho), if_neg (schedule_ne_init o ho), h.bcnt, ← bcntAt_succ o ho]
    simp only [samples_schedule_iff o ho]

theorem AtOffset.acc :
    (decoderTick Config.mgsds d s).acc = if 6 ∣ o + 1 then shiftIn s.acc d else s.acc := by
  rw [decoderTick_acc h.dstate (h.edge ho), if_neg (schedule_ne_init o ho)]
  simp only [samples_schedule_iff o ho]

theorem AtOffset.icode : (decoderTick Config.mgsds d s).icode =
    if o = 51 then decodeInv Config.mgsds.mask (~~~(decoderTick Config.mgsds d s).acc) else s.icode := by
  rw [decoderTick_icode h.dstate (h.edge ho)]
  simp only [schedule_eq_final_iff o ho]

end

/-- The step after the `FINAL` tick is the `INIT` tick of the next cycle (40_decoder R89). -/
theorem AtOffset.wrap {s : State} (h : AtOffset 52 s) (d : Bool) : AtOffset 0 (decoderTick Config.mgsds d s) := by
  have hn : nextDState Config.mgsds (scheduleAt Config.mgsds 52) s.wcnt s.bcnt = .init := by
    rw [h.wcnt, h.bcnt, nextDState_schedule_last]
  refine ⟨decoderTick_dstate h.dstate hn, ?_, ?_⟩
  · rw [decoderTick_wcnt h.dstate hn]; rfl
  · rw [decoderTick_bcnt h.dstate hn]; rfl

theorem AtOffset.next {o : Nat} {s : State} (h : AtOffset (o % 53) s) (d : Bool) :
    AtOffset ((o + 1) % 53) (decoderTick Config.mgsds d s) := by
  by_cases hlast : o % 53 = 52
  · rw [show (o + 1) % 53 = 0 by omega]
    exact (hlast ▸ h).wrap d
  · rw [show (o + 1) % 53 = o % 53 + 1 by omega]
    exact h.succ (by omega) d

/-! ### A run from an `INIT` tick -/

section
variable (data : Nat → Bool) {s : State} (h : AtOffset 0 s)
include h

theorem atOffset_decoderTicks (o : Nat) : AtOffset (o % 53) (decoderTicks Config.mgsds data o s) := by
  induction o with
  | zero => exact h
  | succ o ih => exact ih.next _

theorem atOffset_decoderTicks_of_lt {o : Nat} (ho : o < 53) : AtOffset o (decoderTicks Config.mgsds data o s) := by
  have := atOffset_decoderTicks data h o
  rwa [Nat.mod_eq_of_lt ho] at this

theorem fstat_decoderTicks (o : Nat) : (decoderTicks Config.mgsds data o s).fstat = s.fstat := by
  induction o with
  | zero => rfl
  | succ o ih => rw [decoderTicks, decoderTick_fstat (atOffset_decoderTicks data h o).dstate rfl, ih]

theorem icode_decoderTicks {o : Nat} (ho : o < 52) : (decoderTicks Config.mgsds data o s).icode = s.icode := by
  induction o with
  | zero => rfl
  | succ o ih =>
    rw [decoderTicks, (atOffset_decoderTicks_of_lt data h (by omega)).icode (by omega), if_neg (by omega), ih (by omega)]

theorem icode_decoderTicks_final : (decoderTicks Config.mgsds data 52 s).icode =
    decodeInv Config.mgsds.mask (~~~(decoderTicks Config.mgsds data 52 s).acc) :=
  (atOffset_decoderTicks_of_lt data h (o := 51) (by decide)).icode (by decide) _

end

/-- The shift of R78, bit by bit. -/
theorem shiftIn_getLsbD_zero (acc : Byte) (d : Bool) : (shiftIn acc d).getLsbD 0 = d := by
  rw [shiftIn_eq_append, BitVec.getLsbD_append]
  simp

theorem shiftIn_getLsbD_succ (acc : Byte) (d : Bool) {j : Nat} (hj : j < 7) :
    (shiftIn acc d).getLsbD (j + 1) = acc.getLsbD j := by
  rw [shiftIn_eq_append, BitVec.getLsbD_append]
  simp [hj]

/-- After `o` steps of a cycle the sample of bit i, once taken, stands above those taken since (20_memory R48). -/
theorem acc_decoderTicks (data : Nat → Bool) {s : State} (h : AtOffset 0 s) {o : Nat} (ho : o < 53) {i : Nat}
    (hi : 1 ≤ i) (hio : 6 * i ≤ o) :
    (decoderTicks Config.mgsds data o s).acc.getLsbD (o / 6 - i) = data (6 * i) := by
  induction o with
  | zero => omega
  | succ o ih =>
    rw [decoderTicks, (atOffset_decoderTicks_of_lt data h (by omega)).acc (by omega)]
    split
    · next hsample =>
      obtain hnow | hbefore : 6 * i = o + 1 ∨ 6 * i ≤ o := by omega
      · rw [show (o + 1) / 6 - i = 0 by omega, shiftIn_getLsbD_zero, hnow]
      · rw [show (o + 1) / 6 - i = o / 6 - i + 1 by omega, shiftIn_getLsbD_succ _ _ (by omega), ih (by omega) hbefore]
    · next hsample =>
      rw [show (o + 1) / 6 = o / 6 by omega, ih (by omega) (by omega)]

/-- Settles O53. -/
theorem noDataSequenceDisturbsTheReadCycle : Obligations.NoDataSequenceDisturbsTheReadCycle := by
  refine ⟨fun data s o hx hw hb => ?_, fun s hne => ?_⟩
  · have h : AtOffset 0 s := ⟨hx, hw, hb⟩
    exact ⟨(atOffset_decoderTicks data h o).dstate, fstat_decoderTicks data h o⟩
  · by_contra h7
    exact hne (by rw [decoderStep_fstat, if_neg h7])

/-- Settles O55: after the 52 steps of a cycle the sample of bit i has 8 - i samples below it. -/
theorem samplesLandMostSignificantBitFirst : Obligations.SamplesLandMostSignificantBitFirst :=
  fun data _ hx hw hb _ h1 h8 => acc_decoderTicks data ⟨hx, hw, hb⟩ (o := 52) (by decide) h1 (by omega)

/-- Settles O56. -/
theorem readCyclePublishesOnItsFinalTick : Obligations.ReadCyclePublishesOnItsFinalTick := by
  intro data s hx hw hb
  have h : AtOffset 0 s := ⟨hx, hw, hb⟩
  exact ⟨fun o ho => icode_decoderTicks data h ho, (atOffset_decoderTicks_of_lt data h (by decide)).dstate,
    icode_decoderTicks_final data h⟩

/-- Settles O57: the eight samples are the inverted mask, bit by bit, so the byte that is decoded is the mask itself. -/
theorem singlePressedButtonIsDecoded : Obligations.SinglePressedButtonIsDecoded := by
  intro data s k hx hw hb hdata
  have h : AtOffset 0 s := ⟨hx, hw, hb⟩
  have hacc : ~~~(decoderTicks Config.mgsds data 52 s).acc = Config.mgsds.mask k := by
    refine BitVec.eq_of_getLsbD_eq fun j hj => ?_
    have hbit := samplesLandMostSignificantBitFirst data s hx hw hb (8 - j) (by omega) (by omega)
    rw [hdata (8 - j) (by omega) (by omega), show 8 - (8 - j) = j by omega] at hbit
    rw [BitVec.getLsbD_not, hbit]
    simp [hj]
  rw [icode_decoderTicks_final data h, hacc]
  exact decodeInv_mask (fun _ _ => mgsds_legal.mask_injective) k

end Sys2Proof.Machine
end

section
/-! SUPPORT. A run of rounds of this hardware is, on the decoder, a run of decoder steps (41_scheduler R105, R107), and so
follows the read-cycle schedule (40_decoder R87). -/

namespace Sys2Proof.Machine

/-- A decoder step leaves slot 0's counter alone (41_scheduler R96). -/
theorem decoderTick_elapsed (c : Config) (d : Bool) (s : State) :
    (decoderTick c d s).task0.elapsed = s.task0.elapsed := by
  have hrec := congrArg TaskRec.elapsed (task_decoderStep c (s.withData d) .slot0)
  exact hrec

theorem decoderTicks_elapsed (c : Config) (data : Nat → Bool) (s : State) (n : Nat) :
    (decoderTicks c data n s).task0.elapsed = s.task0.elapsed := by
  induction n with
  | zero => rfl
  | succ n ih => rw [decoderTicks, decoderTick_elapsed, ih]

/-- A run of decoder steps, cut in two. -/
theorem decoderTicks_add (c : Config) (data : Nat → Bool) (s : State) (m n : Nat) :
    decoderTicks c data (m + n) s = decoderTicks c (fun j => data (m + j)) n (decoderTicks c data m s) := by
  induction n with
  | zero => rfl
  | succ n ih => rw [← Nat.add_assoc, decoderTicks, ih]; rfl

/-- An answer taken in a round changes the record of its slot only (41_scheduler R96, R102). -/
theorem dispatchDone_answer (c : Config) (k : Slot) (a : StateCode) (s : State) :
    ∃ r, dispatchDone c k (fun t => (t, a)) s = s.setTask k r := by
  cases h : s.due c k with
  | false => exact ⟨_, dispatchDone_not_due _ h⟩
  | true => exact ⟨_, dispatchDone_due _ h⟩

/-- With slot 0 due the decoder's part of a round is one decoder step, whatever the external records hold. -/
theorem decoderPart_of_due {c : Config} {s : State} (h : s.due c .slot0 = true) (h1 : s.task0.elapsed = 1)
    (d : Bool) (r1 r2 : TaskRec) :
    decoderPart c d { s with task1 := r1, task2 := r2 } = { decoderTick c d s with task1 := r1, task2 := r2 } := by
  have hstep := decoderStep_update c (s.withData d) s.task0.elapsed r1 r2 s.spos s.tickPend (s.withData d).inp s.draws
    rfl
  have hdue : ({ s with task1 := r1, task2 := r2 } : State).due c .slot0 = true := h
  rw [decoderPart, dispatchDone_due _ hdue]
  refine (congrArg (fun r : State × StateCode => r.1.setTask .slot0 ⟨r.2, 1⟩) hstep).trans ?_
  simp only [decoderTick, storeDstate]
  rw [decoderStep_frame c (s.withData d)]
  simp only [withData_task0, h1]
  rfl

/-- One round of a due slot 0 against one decoder step: the same but for the external records. -/
theorem roundOnce_eq_decoderTick {s : State} (h : s.task0.elapsed = 1) (e : RoundEnv) (r1 r2 : TaskRec) :
    ∃ r1' r2', roundOnce Config.mgsds e { s with task1 := r1, task2 := r2 } =
      { decoderTick Config.mgsds e.data s with task1 := r1', task2 := r2' } := by
  rw [roundOnce_eq, decoderPart_of_due ((due_mgsds_iff .slot0 s).2 h) h]
  obtain ⟨r1', h1⟩ := dispatchDone_answer Config.mgsds .slot1 e.ans1
    { decoderTick Config.mgsds e.data s with task1 := r1, task2 := r2 }
  rw [h1]
  obtain ⟨r2', h2⟩ := dispatchDone_answer Config.mgsds .slot2 e.ans2
    (State.setTask { decoderTick Config.mgsds e.data s with task1 := r1, task2 := r2 } .slot1 r1')
  exact ⟨r1', r2', h2⟩

/-- The simulation over a run: each round is one decoder step under the round's data level. -/
theorem rounds_eq_decoderTicks {s : State} (h : s.task0.elapsed = 1) (env : Nat → RoundEnv) (n : Nat) :
    ∃ r1 r2, rounds Config.mgsds env n s =
      { decoderTicks Config.mgsds (fun m => (env m).data) n s with task1 := r1, task2 := r2 } := by
  induction n with
  | zero => exact ⟨s.task1, s.task2, rfl⟩
  | succ n ih =>
    obtain ⟨r1, r2, hn⟩ := ih
    rw [rounds, hn]
    exact roundOnce_eq_decoderTick ((decoderTicks_elapsed ..).trans h) _ r1 r2

/-- The first step from `START` is the `INIT` tick of a read cycle (40_decoder R79, R87). -/
theorem atOffset_decoderTick_of_start {s : State} (h : s.dstate = 0) (d : Bool) :
    AtOffset 0 (decoderTick Config.mgsds d s) := by
  have hx : s.dstate = DState.start.code := h
  refine ⟨decoderTick_dstate (x' := .init) hx rfl, ?_, ?_⟩
  · rw [decoderTick_wcnt (x' := .init) hx rfl]; rfl
  · rw [decoderTick_bcnt (x' := .init) hx rfl]; rfl

/-- From a `START` state with slot 0 due, round `1 + o` ends at offset `o` of the read cycle, modulo its length. -/
theorem dstate_rounds {s : State} (hx : s.dstate = 0) (h : s.task0.elapsed = 1) (env : Nat → RoundEnv) (o : Nat) :
    (rounds Config.mgsds env (1 + o) s).dstate = (scheduleAt Config.mgsds (o % 53)).code := by
  obtain ⟨r1, r2, hrun⟩ := rounds_eq_decoderTicks h env (1 + o)
  rw [hrun, decoderTicks_add]
  exact (atOffset_decoderTicks _ (atOffset_decoderTick_of_start hx _) o).dstate

theorem initTick_eq (n : Nat) : initTick Config.mgsds n = 1 + (n - 1) * 53 := rfl

theorem sampleTick_eq (n : Nat) {i : Nat} (hi : 1 ≤ i) :
    sampleTick Config.mgsds n i = 1 + (n - 1) * 53 + 6 * i := by
  have : sampleOffset Config.mgsds i = 2 + 2 + 2 + (i - 1) * 6 := rfl
  rw [sampleTick, initTick_eq, this]
  omega

theorem finalTick_eq (n : Nat) : finalTick Config.mgsds n = 1 + (n - 1) * 53 + 52 := by
  rw [finalTick, sampleTick_eq n (by decide)]
  rfl

/-- The schedule around each sample (40_decoder R87). -/
theorem schedule_at_samples : ∀ i < 9, 1 ≤ i →
    scheduleAt Config.mgsds (6 * i - 1) = .waitB ∧ scheduleAt Config.mgsds (6 * i) = .waitC := by decide

/-- Settles O54: the ticks of R87 are offsets 0, 6i - 1, 6i and 52 of their cycle. -/
theorem roundsFollowTheReadCycleSchedule : Obligations.RoundsFollowTheReadCycleSchedule := by
  intro env s n hx h hn
  have hat : ∀ t o, o < 53 → t = 1 + ((n - 1) * 53 + o) →
      (rounds Config.mgsds env t s).dstate = (scheduleAt Config.mgsds o).code := by
    rintro t o ho rfl
    rw [dstate_rounds hx h, show ((n - 1) * 53 + o) % 53 = o by omega]
  refine ⟨hat _ 0 (by decide) (initTick_eq n), fun i h1 h8 => ?_, hat _ 52 (by decide) ?_, ?_⟩
  · obtain ⟨hb, hc⟩ := schedule_at_samples i (by omega) h1
    rw [← hb, ← hc]
    refine ⟨hat _ _ (by omega) ?_, hat _ _ (by omega) ?_⟩ <;> rw [sampleTick_eq n h1] <;> omega
  · rw [finalTick_eq]; omega
  · rw [finalTick_eq, initTick_eq]; omega

end Sys2Proof.Machine
end
